-- ==== Sys2Proof/Word.lean ====
section
/-! DEFINITION. The words of the ULW880: bytes, scan words, frame numbers, crossing times, key and pedal indices. -/

namespace Sys2Proof

/-- A byte of a link frame, message or record (11 R178). -/
abbrev Byte := BitVec 8

/-- A word of the scan frame (11 R179). -/
abbrev ScanWord := BitVec 16

/-- A frame number: 32 bits, counting frame ticks modulo 2^32 (00 section 4.4). -/
abbrev FrameNo := BitVec 32

/-- A crossing time in ticks, held modulo 2^36 (01 R11). -/
abbrev TickTime := BitVec 36

/-- Key index 0..87 (00 section 4.5). -/
abbrev KeyIdx := Fin 88

/-- Pedal identifier 0..2 (00 section 4.5). -/
abbrev PedalIdx := Fin 3

/-- Part 0..3 (00 section 4.5). -/
abbrev PartIdx := Fin 4

end Sys2Proof
end

