-- ==== Sys2Proof/Syntax.lean ====
section
/-! DEFINITION. The commands of the ULW880: one constructor per row of spec/opcode_table.json, and the operand records
they carry. -/

namespace Sys2Proof

/-- The two end-switch inputs as sampled: true where the switch is asserted (06 R93). -/
structure Switches where
  acoustic : Bool
  silent : Bool
  deriving DecidableEq, Repr, Inhabited

/-- What the outside brings to a frame tick. `cue` is the sampled cue line, true where active (07 R122, 08 R132).
`storeDone` and `storeMatches` are the Settings Store's own completion of a save and the result of its read-back (04 R74).
`choices` resolves the orders that the spec leaves open at a tick (05 R80, R85; 09 R153): the n-th choice picks, among the
works that may run next, the one that does (log 4). -/
structure TickInputs where
  sw : Switches
  cue : Bool
  storeDone : Bool
  storeMatches : Bool
  choices : List Nat
  deriving DecidableEq, Repr, Inhabited

/-- The content of an admitted live NOTE_ON, as an observer sees it (05 R78, R87). -/
structure LiveNote where
  key : KeyIdx
  velocity : Nat
  isRepeat : Bool
  offset : Nat
  part : Nat
  deriving DecidableEq, Repr, Inhabited

/-- A message that completes while the samples of a scan frame are being handled (02 R33, R39; 04 R76): its code, tag and body,
and the place of its execution among the keys: right before the sample of key `before`, or after all of them where it is 88.
`stored` tells how far a CURVE_WRITE, which stores one entry at a time, has come earlier: its n-th number is how many of its
entries are stored before the sample of key n (log 3). -/
structure MidMessage where
  before : Fin 89
  code : Byte
  tag : Byte
  body : List Byte
  stored : List Nat
  deriving DecidableEq, Repr, Inhabited

/-- A scan frame as it arrives (01 R2): its 16-bit words, and the message that completes while its samples are handled, where
there is one. -/
structure ScanArrival where
  words : List ScanWord
  mid : Option MidMessage
  deriving DecidableEq, Repr, Inhabited

/-- What may trigger a pending balance change (09 R157): step 3 of a frame tick, a bar crossing handed by the Player, or
an end of pass handed by the Player. -/
inductive BalanceCause
  | step3 | barCrossing | endOfPass
  deriving DecidableEq, Repr, Inhabited

/-- The commands. A message command carries its tag and its body bytes; it is the completion of that message (10 R171). -/
inductive Instr
  /-- PIN_RESET (R177): Assertion of the reset pin or application of power brings every block to its pin-reset values, and the Settings Store is restored before the first frame tick. -/
  | pinReset (sw : Switches)
  /-- SOFT_RESET (R176): At the reset tick after the RESET reply has been sent, every block takes its soft-reset values, the store is restored and the next frame tick is frame 0. -/
  | softReset (sw : Switches)
  /-- FRAME_TICK (R166): The start of each action frame, at which every block does its per-frame work and one upstream frame is sent. -/
  | frameTick (inp : TickInputs)
  /-- SCAN_FRAME (R2): A complete scan frame arrives and is checked for length, CRC and staleness against the open verdict. -/
  | scanFrame (arrival : ScanArrival)
  /-- DOWNSTREAM_FRAME (R167): A complete downstream main-link frame arrives and is checked; if accepted, its audio is held for the Mixer and its segment goes to the assembler. -/
  | downstreamFrame (bytes : List Byte)
  /-- KEY_CAL_WRITE (R59): Writes the calibration part of one key after ordered checks, and makes the key await its first sample. -/
  | keyCalWrite (tag : Byte) (body : List Byte)
  /-- KEY_CAL_READ (R61): Returns the calibration part and auto-tracking state of a range of keys. -/
  | keyCalRead (tag : Byte) (body : List Byte)
  /-- KEY_STATE_READ (R25): Returns the runtime part of a range of keys together with the Scan Receiver state. -/
  | keyStateRead (tag : Byte) (body : List Byte)
  /-- CURVE_WRITE (R32): Stores clamped values into one velocity curve from a start index, wrapping after index 255. -/
  | curveWrite (tag : Byte) (body : List Byte)
  /-- CURVE_READ (R34): Returns consecutive entries of one velocity curve. -/
  | curveRead (tag : Byte) (body : List Byte)
  /-- TRACK_CONFIG (R40): Writes the four global tracking settings with clamping, or reads them. -/
  | trackConfig (tag : Byte) (body : List Byte)
  /-- PEDAL_CAL_WRITE (R55): Writes the calibration part of one pedal, clamping the deadband and the map points. -/
  | pedalCalWrite (tag : Byte) (body : List Byte)
  /-- PEDAL_CAL_READ (R56): Returns one pedal's record, the engage states and the sostenuto set. -/
  | pedalCalRead (tag : Byte) (body : List Byte)
  /-- CALIBRATE_REST (R65): Starts the one-shot rest calibration job over a range of keys. -/
  | calibrateRest (tag : Byte) (body : List Byte)
  /-- FAULT_LIST_READ (R71): Returns the Fault List, its overflow flag and the number of unlisted FAULT keys. -/
  | faultListRead (tag : Byte) (body : List Byte)
  /-- FAULT_CLEAR (R70): Returns one faulted key, or every faulted key, to service and updates the Fault List and its overflow flag. -/
  | faultClear (tag : Byte) (body : List Byte)
  /-- NV_SAVE (R73): Copies the working settings into a save image, erases the validity marker and enters SAVING. -/
  | nvSave (tag : Byte) (body : List Byte)
  /-- NV_RESTORE (R76): Loads the stored or factory settings while the part runs, if every key is at REST with status IDLE. -/
  | nvRestore (tag : Byte) (body : List Byte)
  /-- RAIL_MOVE (R98): Requests a move of the rail to one end, with an effect that depends on the rail state. -/
  | railMove (tag : Byte) (body : List Byte)
  /-- RAIL_CONFIG (R96): Writes or reads the rail configuration. -/
  | railConfig (tag : Byte) (body : List Byte)
  /-- RAIL_STATUS (R113): Returns the Rail Controller's state and the result of the latest interlock evaluation. -/
  | railStatus (tag : Byte) (body : List Byte)
  /-- RAIL_MONITOR (R112): Sets, clears or reads the monitor flag, and recomputes the live gate. -/
  | railMonitor (tag : Byte) (body : List Byte)
  /-- MIX_MODE (R154): Stores a pending mix mode, which is applied at the next frame tick. -/
  | mixMode (tag : Byte) (body : List Byte)
  /-- MIX_BALANCE (R156): Stores a pending balance change with its fade length and trigger. -/
  | mixBalance (tag : Byte) (body : List Byte)
  /-- GAIN_TABLE_WRITE (R161): Stores clamped gain values into the left table, the right table or both. -/
  | gainTableWrite (tag : Byte) (body : List Byte)
  /-- GAIN_TABLE_READ (R162): Returns consecutive entries of one gain table. -/
  | gainTableRead (tag : Byte) (body : List Byte)
  /-- VOLUME_SET (R159): Sets the volume index with clamping, or reads it. -/
  | volumeSet (tag : Byte) (body : List Byte)
  /-- MIX_STATUS (R165): Returns the Mixer's state and may clear the saturation counter. -/
  | mixStatus (tag : Byte) (body : List Byte)
  /-- TAKE_HEADER_WRITE (R117): Writes the take header while the Player is STOPPED, or reads both headers and the area roles. -/
  | takeHeaderWrite (tag : Byte) (body : List Byte)
  /-- TAKE_WRITE (R118): Stores checked take records into the TAKE area while the Player is STOPPED. -/
  | takeWrite (tag : Byte) (body : List Byte)
  /-- CAPTURE_READ (R119): Returns records of the CAPTURE area below the capture header's record count. -/
  | captureRead (tag : Byte) (body : List Byte)
  /-- RECORD_START (R121): Starts a recording at once, or arms it on the first key or on the cue line. -/
  | recordStart (tag : Byte) (body : List Byte)
  /-- RECORD_STOP (R129): Closes a recording under way, or disarms an armed one. -/
  | recordStop (tag : Byte) (body : List Byte)
  /-- PROMOTE (R130): Swaps the roles of the two areas so that the capture becomes the take. -/
  | promote (tag : Byte) (body : List Byte)
  /-- SECTION_WRITE (R138): Writes the shadow section, or reads the section state. -/
  | sectionWrite (tag : Byte) (body : List Byte)
  /-- SECTION_APPLY (R139): Loads the shadow section at once, or sets the apply-pending flag for the end of the pass. -/
  | sectionApply (tag : Byte) (body : List Byte)
  /-- PLAY_START (R143): Starts playback with a locate now, or arms it on the cue line. -/
  | playStart (tag : Byte) (body : List Byte)
  /-- PLAY_STOP (R144): Stops playback now through a flush, or sets the stop-at-end flag. -/
  | playStop (tag : Byte) (body : List Byte)
  /-- PLAY_LOCATE (R145): Moves the start of play to a bar, with an effect that depends on the Player state. -/
  | playLocate (tag : Byte) (body : List Byte)
  /-- PLAY_RATE (R133): Sets the playback rate with clamping, or reads it. -/
  | playRate (tag : Byte) (body : List Byte)
  /-- PART_MODE (R137): Stores a pending mode and stream for one part, or reads all four parts. -/
  | partMode (tag : Byte) (body : List Byte)
  /-- FOLLOW_CONFIG (R148): Sets the follow switch and the chord window, or reads the follow state. -/
  | followConfig (tag : Byte) (body : List Byte)
  /-- METRONOME (R150): Sets the metronome switch and the click level, or reads them. -/
  | metronome (tag : Byte) (body : List Byte)
  /-- STATUS (R174): Reports the state of the part as a whole and clears the notice drop counter. -/
  | status (tag : Byte) (body : List Byte)
  /-- IDENTIFY (R175): Returns the vendor code, the part code and the silicon revision. -/
  | identify (tag : Byte) (body : List Byte)
  /-- RESET (R176): Appends an OK reply and sets the reset-pending indication for a soft reset. -/
  | reset (tag : Byte) (body : List Byte)
  /-- SCAN_LOST (R4): The bad-frame run reaches 16, so the Scan Receiver becomes UNLOCKED and raises SCAN_LOST. -/
  | scanLost
  /-- SCAN_LOCKED (R4): The good-frame run reaches 4, so the Scan Receiver becomes LOCKED, raises SCAN_LOCKED and takes the frame's samples. -/
  | scanLocked (arrival : ScanArrival)
  /-- LINK_DOWN (R168): The bad-frame run of the main link reaches 80, so the link goes DOWN and a message under assembly is discarded. -/
  | linkDown
  /-- LINK_RESTORED (R168): The good-frame run of the main link reaches 8, so the link comes UP and LINK_RESTORED is raised. -/
  | linkRestored (bytes : List Byte)
  /-- KEY_FAULT (R68): A key's fault run reaches 64, so the key enters FAULT, its note is settled, the Fault List is updated and KEY_FAULT is raised. -/
  | keyFault (k : KeyIdx) (raw : Nat)
  /-- REST_STEP (R63): An AUTO key's stability count reaches 800, so its rest is stepped toward the raw value. -/
  | restStep (k : KeyIdx) (raw : Nat)
  /-- CAL_KEY_COMPLETE (R66): A counting key's sample count reaches 64, so its average becomes its rest or the key is dropped. -/
  | calKeyComplete (k : KeyIdx) (raw : Nat)
  /-- CAL_JOB_TIMEOUT (R67): The calibration job's frame count reaches 4000, so the job ends with CAL_DONE. -/
  | calJobTimeout
  /-- NV_DONE (R74): A save completes, is read back and compared, leaving the store valid or invalid, and NV_DONE is raised. -/
  | nvDone (readBackMatches : Bool)
  /-- FLIGHT_TIMER_EXPIRY (R22): A key's flight timer reaches 0, so the key leaves the flight set. -/
  | flightTimerExpiry (k : KeyIdx)
  /-- PEDAL_INTERVAL_EXPIRY (R47): A pedal's interval timer expires, and a held-back pedal event is attempted with the current value. -/
  | pedalIntervalExpiry (p : PedalIdx)
  /-- NOTE_OFF_RETRY (R20): At a frame tick the NOTE_OFF of each OWED key is attempted again, and it becomes IDLE on admission. -/
  | noteOffRetry
  /-- PEDAL_EVENT_RETRY (R48): A due pedal whose earlier event was refused is attempted again at a frame tick. -/
  | pedalEventRetry (p : PedalIdx)
  /-- CLEAR_TIMEOUT (R102): The clearance timer reaches 0 in WAITING, so the rail returns to its origin state with RAIL_DONE(CLEAR_TIMEOUT). -/
  | clearTimeout (sw : Switches)
  /-- RAIL_START (R103): WAITING finds the interlock satisfied, so the move starts driving or arrives at once. -/
  | railStart (sw : Switches)
  /-- RAIL_RESUME (R105): A PAUSED rail finds the interlock satisfied at a tick, so the move resumes driving. -/
  | railResume (sw : Switches)
  /-- RAIL_BLOCKED (R105): The accumulated pause timer exceeds the clearance timeout, so the rail enters RAIL_FAULT with reason BLOCKED. -/
  | railBlocked (sw : Switches)
  /-- RAIL_STALL (R107): The motion timer reaches 0 while driving, so the rail enters RAIL_FAULT with reason STALL. -/
  | railStall (sw : Switches)
  /-- RAIL_ARRIVAL (R106): The target end switch is latched asserted, so the rail arrives, raises RAIL_DONE(ARRIVED) and begins any stored next target. -/
  | railArrival (sw : Switches)
  /-- RAIL_DISPLACED (R109): The own end switch of a rail at an end is latched not asserted, so the rail is set from the switches and RAIL_DONE(DISPLACED) is raised. -/
  | railDisplaced (sw : Switches)
  /-- SWITCH_CONFLICT (R93): Both end switches are latched asserted, so the rail enters RAIL_FAULT with reason SWITCH_CONFLICT. -/
  | switchConflict
  /-- RECORD_CUE_START (R122): A recorder ARMED on the cue finds the cue line active at a tick and starts recording. -/
  | recordCueStart
  /-- RECORD_FIRST_KEY_START (R123): A recorder ARMED on the first key observes an admitted live NOTE_ON, starts recording and appends that NOTE_ON. -/
  | recordFirstKeyStart (note : LiveNote)
  /-- PLAY_CUE_START (R143): An ARMED Player finds the cue line active at a tick and begins its locate. -/
  | playCueStart
  /-- LOCATE_END (R142): A search step ends the locate, so the position is set, the Player becomes RUNNING and beat 1 is announced. -/
  | locateEnd
  /-- END_OF_PASS (R140): The advance brings the position to the section limit, so AT_SECTION is handed to the Mixer and a flush begins. -/
  | endOfPass
  /-- END_OF_TAKE (R140): In free play the release reaches the first END or the record count, so a flush with destination END_OF_TAKE begins. -/
  | endOfTake
  /-- FLUSH_END (R140): The last flush item is admitted, so the flush's decision, stop, locate or free play, is taken. -/
  | flushEnd
  /-- HELD_RECORD_RETRY (R135): A playback record refused at an earlier tick is presented again and the release goes on from it. -/
  | heldRecordRetry
  /-- PART_CLEANUP (R137): At a tick, the NOTE_OFFs and GUIDE_OFFs of parts whose mode has changed are presented until none remain. -/
  | partCleanup
  /-- LAG (R135): The hold counter reaches 15 with the LAG flag ARMED, so LAG is raised. -/
  | lag
  /-- BALANCE_TRIGGER (R157): A pending balance change is triggered, now, at a bar crossing, at an end of pass or on a stop, and its fade begins. -/
  | balanceTrigger (cause : BalanceCause)
  /-- FADE_END (R158): A fade's remaining frames reach 0, so the balance stands at the fade's target. -/
  | fadeEnd
  /-- CLICK_END (R150): A click reaches the end of its 96 samples and ends by itself. -/
  | clickEnd
  deriving DecidableEq, Repr

end Sys2Proof
end

