-- ==== Sys2Proof/Decode.lean ====
section
/-! DEFINITION. The command that a word spells by the bits of spec/opcode_table.json, and the codes of the message commands
(11 R180). -/

namespace Sys2Proof

/-- No row of spec/opcode_table.json carries bits: the commands are link frames, messages, pin events and events of the frame
work, so no word spells one. -/
def decodeTableWord (_nbits _w : Nat) : Option Instr := none

/-! ## Message codes (11 R180) -/

/-- The code, tag and body of a message command; none for a command that is no message (11 R180). -/
def messageParts (i : Instr) : Option (Byte × Byte × List Byte) :=
  match i with
  | .pinReset _ => none
  | .softReset _ => none
  | .frameTick _ => none
  | .scanFrame _ => none
  | .downstreamFrame _ => none
  | .keyCalWrite tag body => some (0x10#8, tag, body)
  | .keyCalRead tag body => some (0x11#8, tag, body)
  | .keyStateRead tag body => some (0x12#8, tag, body)
  | .curveWrite tag body => some (0x13#8, tag, body)
  | .curveRead tag body => some (0x14#8, tag, body)
  | .trackConfig tag body => some (0x15#8, tag, body)
  | .pedalCalWrite tag body => some (0x18#8, tag, body)
  | .pedalCalRead tag body => some (0x19#8, tag, body)
  | .calibrateRest tag body => some (0x20#8, tag, body)
  | .faultListRead tag body => some (0x21#8, tag, body)
  | .faultClear tag body => some (0x22#8, tag, body)
  | .nvSave tag body => some (0x23#8, tag, body)
  | .nvRestore tag body => some (0x24#8, tag, body)
  | .railMove tag body => some (0x30#8, tag, body)
  | .railConfig tag body => some (0x31#8, tag, body)
  | .railStatus tag body => some (0x32#8, tag, body)
  | .railMonitor tag body => some (0x33#8, tag, body)
  | .mixMode tag body => some (0x40#8, tag, body)
  | .mixBalance tag body => some (0x41#8, tag, body)
  | .gainTableWrite tag body => some (0x42#8, tag, body)
  | .gainTableRead tag body => some (0x43#8, tag, body)
  | .volumeSet tag body => some (0x44#8, tag, body)
  | .mixStatus tag body => some (0x45#8, tag, body)
  | .takeHeaderWrite tag body => some (0x50#8, tag, body)
  | .takeWrite tag body => some (0x51#8, tag, body)
  | .captureRead tag body => some (0x52#8, tag, body)
  | .recordStart tag body => some (0x53#8, tag, body)
  | .recordStop tag body => some (0x54#8, tag, body)
  | .promote tag body => some (0x55#8, tag, body)
  | .sectionWrite tag body => some (0x60#8, tag, body)
  | .sectionApply tag body => some (0x61#8, tag, body)
  | .playStart tag body => some (0x62#8, tag, body)
  | .playStop tag body => some (0x63#8, tag, body)
  | .playLocate tag body => some (0x64#8, tag, body)
  | .playRate tag body => some (0x65#8, tag, body)
  | .partMode tag body => some (0x66#8, tag, body)
  | .followConfig tag body => some (0x67#8, tag, body)
  | .metronome tag body => some (0x68#8, tag, body)
  | .status tag body => some (0x70#8, tag, body)
  | .identify tag body => some (0x71#8, tag, body)
  | .reset tag body => some (0x72#8, tag, body)
  | .scanLost => none
  | .scanLocked _ => none
  | .linkDown => none
  | .linkRestored _ => none
  | .keyFault _ _ => none
  | .restStep _ _ => none
  | .calKeyComplete _ _ => none
  | .calJobTimeout => none
  | .nvDone _ => none
  | .flightTimerExpiry _ => none
  | .pedalIntervalExpiry _ => none
  | .noteOffRetry => none
  | .pedalEventRetry _ => none
  | .clearTimeout _ => none
  | .railStart _ => none
  | .railResume _ => none
  | .railBlocked _ => none
  | .railStall _ => none
  | .railArrival _ => none
  | .railDisplaced _ => none
  | .switchConflict => none
  | .recordCueStart => none
  | .recordFirstKeyStart _ => none
  | .playCueStart => none
  | .locateEnd => none
  | .endOfPass => none
  | .endOfTake => none
  | .flushEnd => none
  | .heldRecordRetry => none
  | .partCleanup => none
  | .lag => none
  | .balanceTrigger _ => none
  | .fadeEnd => none
  | .clickEnd => none

/-- The message command of a code, with its tag and body; none for a code that names no message (11 R180). -/
def messageOfCode (code : Nat) (tag : Byte) (body : List Byte) : Option Instr :=
  match code with
  | 0x10 => some (.keyCalWrite tag body)
  | 0x11 => some (.keyCalRead tag body)
  | 0x12 => some (.keyStateRead tag body)
  | 0x13 => some (.curveWrite tag body)
  | 0x14 => some (.curveRead tag body)
  | 0x15 => some (.trackConfig tag body)
  | 0x18 => some (.pedalCalWrite tag body)
  | 0x19 => some (.pedalCalRead tag body)
  | 0x20 => some (.calibrateRest tag body)
  | 0x21 => some (.faultListRead tag body)
  | 0x22 => some (.faultClear tag body)
  | 0x23 => some (.nvSave tag body)
  | 0x24 => some (.nvRestore tag body)
  | 0x30 => some (.railMove tag body)
  | 0x31 => some (.railConfig tag body)
  | 0x32 => some (.railStatus tag body)
  | 0x33 => some (.railMonitor tag body)
  | 0x40 => some (.mixMode tag body)
  | 0x41 => some (.mixBalance tag body)
  | 0x42 => some (.gainTableWrite tag body)
  | 0x43 => some (.gainTableRead tag body)
  | 0x44 => some (.volumeSet tag body)
  | 0x45 => some (.mixStatus tag body)
  | 0x50 => some (.takeHeaderWrite tag body)
  | 0x51 => some (.takeWrite tag body)
  | 0x52 => some (.captureRead tag body)
  | 0x53 => some (.recordStart tag body)
  | 0x54 => some (.recordStop tag body)
  | 0x55 => some (.promote tag body)
  | 0x60 => some (.sectionWrite tag body)
  | 0x61 => some (.sectionApply tag body)
  | 0x62 => some (.playStart tag body)
  | 0x63 => some (.playStop tag body)
  | 0x64 => some (.playLocate tag body)
  | 0x65 => some (.playRate tag body)
  | 0x66 => some (.partMode tag body)
  | 0x67 => some (.followConfig tag body)
  | 0x68 => some (.metronome tag body)
  | 0x70 => some (.status tag body)
  | 0x71 => some (.identify tag body)
  | 0x72 => some (.reset tag body)
  | _ => none

/-- The bytes of a message: code, tag, body length low byte first, body (11 R180); none for a command that is no message. -/
def messageBytes (i : Instr) : Option (List Byte) :=
  (messageParts i).map (fun m =>
    m.1 :: m.2.1 :: BitVec.ofNat 8 m.2.2.length :: BitVec.ofNat 8 (m.2.2.length / 256) :: m.2.2)

/-- The message command that a message's bytes spell: the body is as long as the header says (11 R180). -/
def messageOfBytes (bytes : List Byte) : Option Instr :=
  match bytes with
  | code :: tag :: lo :: hi :: body =>
    if body.length = lo.toNat + 256 * hi.toNat then messageOfCode code.toNat tag body else none
  | _ => none

end Sys2Proof
end

