-- ==== Sys2Proof/Config.lean ====
section
/-! DEFINITION. What an implementation fixes and what the spec leaves open: constants without a body, so that nothing
can be proved of their values. -/

namespace Sys2Proof.Config

/-- The n-th free byte. Nothing is known of it: every place where the spec states no value draws one, at the count that
`State.free` then holds (DESIGN CHOICE, safe: logs 25, 26, 27, 38). -/
opaque freeByte : Nat → Byte

/-- The silicon revision that IDENTIFY reports, "fixed for each stepping" (10 R175; its value and width are not given:
DESIGN CHOICE, log 28). -/
opaque siliconRevision : Byte

end Sys2Proof.Config
end

