-- ==== Sys2Proof/Machine/Types.lean ====
section
/-! DEFINITION. The pieces of state of the twelve blocks (00 section 2), each as plain data. Numbers that the spec only counts
or compares are `Nat`, with their ranges stated as invariants in Safety.lean; words that wrap are bit vectors. -/

namespace Sys2Proof.Machine

/-! ## Scan Receiver (01 R1 to R6) and link verdicts -/

/-- Lock state of the Scan Receiver (01 R4). -/
inductive Lock
  | locked | unlocked
  deriving DecidableEq, Repr, Inhabited

/-- Verdict of a frame (01 R1, 10 R167). -/
inductive Verdict
  | pending | good | bad
  deriving DecidableEq, Repr, Inhabited

/-- A flag that reports once: ARMED until the report is raised, then SENT (05 R89, 08 R135). -/
inductive ReportFlag
  | armed | sent
  deriving DecidableEq, Repr, Inhabited

/-- The Scan Receiver's state (01 R1, R4). `verdict` is none before the first frame tick after a reset; `lastTaken` is the
frame of the last scan frame whose samples were taken; `timing` is the last frame timing sent (01 R1). -/
structure ScanReceiver where
  lock : Lock
  badRun : Nat
  goodRun : Nat
  errors : Nat
  verdict : Option Verdict
  lastTaken : Option FrameNo
  timing : Option ScanWord
  deriving DecidableEq, Repr, Inhabited

/-! ## Key Tracker (01, 02) and the calibration part (04) -/

/-- Motion state (01 R7, section 1.3). -/
inductive Motion
  | rest | travel | sounding | rearmed | retravel | silent | fault
  deriving DecidableEq, Repr, Inhabited

/-- Note status (01 section 1.4): IDLE, ON, HELD, OWED, LOST. -/
inductive NoteStatus
  | idle | active | held | owed | lost
  deriving DecidableEq, Repr, Inhabited

/-- Calibration mode (04 R58). -/
inductive CalMode
  | manual | auto
  deriving DecidableEq, Repr, Inhabited

/-- The calibration part of a key record (04 R58). -/
structure KeyCal where
  rest : Nat
  bottom : Nat
  tOff : Nat
  tStart : Nat
  tRearm : Nat
  tStrike : Nat
  curve : Nat
  trim : Int
  mode : CalMode
  restLo : Nat
  restHi : Nat
  enabled : Bool
  deriving DecidableEq, Repr, Inhabited

/-- A key's condition in the calibration job, with the sum and count of a counting key (04 R65). -/
inductive JobCond
  | notListed
  | counting (sum count : Nat)
  | done
  | dropped
  deriving DecidableEq, Repr, Inhabited

/-- One record of the Key Table: calibration part, auto-tracking state, job condition, runtime part (01 R7, 04 R58, R65).
`member` is the sostenuto set seen from the key (03 R42). -/
structure KeyRecord where
  cal : KeyCal
  stabRef : Option Nat
  stabCount : Nat
  job : JobCond
  motion : Motion
  note : NoteStatus
  depth : Nat
  lastFrame : Option FrameNo
  mark : Option TickTime
  lastVelocity : Option Nat
  flight : Nat
  member : Bool
  faultRun : Nat
  part : Nat
  deriving DecidableEq, Repr, Inhabited

/-- The global tracking settings (02 R38). -/
structure TrackSettings where
  travelLimit : Nat
  flightFrames : Nat
  clearanceLine : Nat
  splitKey : Nat
  deriving DecidableEq, Repr, Inhabited

/-- A velocity curve: one entry per travel code (02 section 2.3). -/
abbrev Curve := Vector Nat 256

/-- The Key Tracker's state: Key Table, curves, settings, and the flight set and deep count as last recomputed
(01 R22, R23). -/
structure KeyTracker where
  keys : Vector KeyRecord 88
  curves : Vector Curve 4
  track : TrackSettings
  flightSet : List KeyIdx
  deepCount : Nat
  deriving DecidableEq, Repr

/-! ## Pedal Unit (03) -/

/-- Engage state of the damper or sostenuto pedal (03 R42). -/
inductive Engage
  | engaged | released
  deriving DecidableEq, Repr, Inhabited

/-- The calibration part of a pedal record (03 R42). -/
structure PedalCal where
  rest : Nat
  bottom : Nat
  deadband : Nat
  map : Vector Nat 17
  deriving DecidableEq, Repr

/-- A pedal record (03 R42). -/
structure PedalRecord where
  cal : PedalCal
  awaiting : Bool
  value : Nat
  lastSent : Option Nat
  interval : Nat
  deriving DecidableEq, Repr

/-- The Pedal Unit's state (03 R42). The sostenuto set is held as the member marks of the Key Table. -/
structure PedalUnit where
  pedals : Vector PedalRecord 3
  damper : Engage
  sostenuto : Engage
  deriving DecidableEq, Repr

/-! ## Calibration Unit (04) -/

/-- Fault List, overflow flag, and the one-shot calibration job (04 R65, R69). The per-key conditions of the job stand in
the key records. -/
structure CalUnit where
  faultList : List KeyIdx
  overflow : Bool
  running : Bool
  first : Nat
  last : Nat
  frames : Nat
  deriving DecidableEq, Repr, Inhabited

/-! ## Event Queue (05) -/

/-- Kind of an event record (05 R78). -/
inductive EventKind
  | noteOn | noteOff | damper | sostenuto | soft | guideOn | guideOff | miss
  deriving DecidableEq, Repr, Inhabited

/-- Source of an event record (05 R78). -/
inductive Source
  | live | playback
  deriving DecidableEq, Repr, Inhabited

/-- Stream tag (05 R78). -/
inductive Stream
  | a | b
  deriving DecidableEq, Repr, Inhabited

/-- An event record (05 R78). `key` is a key index or a pedal identifier, by kind. -/
structure EventRecord where
  kind : EventKind
  source : Source
  stream : Stream
  part : Nat
  key : Nat
  value : Nat
  isRepeat : Bool
  offset : Nat
  age : Nat
  deriving DecidableEq, Repr, Inhabited

/-- The Event Queue's state (05 R77), with the slots of the latest drain (05 R84). The playback count is computed from the
list. -/
structure EventQueue where
  records : List EventRecord
  drops : Nat
  refusals : Nat
  overrun : ReportFlag
  slots : List EventRecord
  deriving DecidableEq, Repr, Inhabited

/-! ## Rail Controller (06) -/

/-- Rail state (06 R91). -/
inductive RailState
  | acoustic | silent | unknown | waiting | engaging | releasing | paused | railFault
  deriving DecidableEq, Repr, Inhabited

/-- An end of the rail's travel (06 R91, target). -/
inductive RailEnd
  | acoustic | silent
  deriving DecidableEq, Repr, Inhabited

/-- Origin of a wait (06 R91). -/
inductive RailOrigin
  | acoustic | silent | unknown
  deriving DecidableEq, Repr, Inhabited

/-- Reason of a RAIL_FAULT (06 R91, R108). -/
inductive RailReason
  | stall | blocked | switchConflict
  deriving DecidableEq, Repr, Inhabited

/-- Mode of the rail driver outputs (06 R92). -/
inductive Driver
  | driveIn | driveOut | coast | brake | hold
  deriving DecidableEq, Repr, Inhabited

/-- Release mode of an end (06 R95, R96). -/
inductive ReleaseMode
  | coast | brake | hold
  deriving DecidableEq, Repr, Inhabited

/-- Fault mode (06 R95, R96). -/
inductive FaultMode
  | coast | brake
  deriving DecidableEq, Repr, Inhabited

/-- Rail configuration, times in milliseconds (06 R95). -/
structure RailConfig where
  motionLimit : Nat
  clearTimeout : Nat
  silentMode : ReleaseMode
  acousticMode : ReleaseMode
  faultMode : FaultMode
  deriving DecidableEq, Repr, Inhabited

/-- Live gate (06 R111). -/
inductive Gate
  | opened | closed
  deriving DecidableEq, Repr, Inhabited

/-- The latest interlock evaluation with its four conditions as read (06 R97, R113). -/
structure Interlock where
  satisfied : Bool
  flightSize : Nat
  deep : Nat
  lock : Lock
  overflow : Bool
  deriving DecidableEq, Repr, Inhabited

/-- The Rail Controller's state (06 R91). `startLimit` is the motion limit in frames at the start of the move, which the
driving time of RAIL_DONE is measured from (06 R110). -/
structure Rail where
  state : RailState
  origin : Option RailOrigin
  target : Option RailEnd
  next : Option RailEnd
  reason : Option RailReason
  driver : Driver
  clearance : Nat
  motion : Nat
  pause : Nat
  pauseCount : Nat
  startLimit : Nat
  acousticSwitch : Bool
  silentSwitch : Bool
  monitor : Bool
  gate : Gate
  eval : Interlock
  config : RailConfig
  deriving DecidableEq, Repr, Inhabited

/-! ## Take Memory and Capture Recorder (07) -/

/-- Kind of a take record (07 R115). -/
inductive TakeKind
  | noteOn | noteOff | damper | sostenuto | soft | spacer | endMark
  deriving DecidableEq, Repr, Inhabited

/-- A take record (07 R115). -/
structure TakeRecord where
  delta : Nat
  kind : TakeKind
  part : Nat
  key : Nat
  value : Nat
  sub : Nat
  deriving DecidableEq, Repr, Inhabited

/-- Area header (07 R116). -/
structure AreaHeader where
  count : Nat
  barLen : Nat
  beats : Nat
  deriving DecidableEq, Repr, Inhabited

/-- The slots of an area that hold something other than the pin-reset record, slots strictly rising. -/
abbrev Slots := List (Nat × TakeRecord)

/-- An area of event memory: slots and header (07 R114, R116). -/
structure Area where
  slots : Slots
  header : AreaHeader
  deriving DecidableEq, Repr, Inhabited

/-- Event memory: two areas and their roles (07 R114). -/
structure TakeMemory where
  area0 : Area
  area1 : Area
  takeIsArea0 : Bool
  deriving DecidableEq, Repr, Inhabited

/-- Recorder state (07 R120). -/
inductive RecState
  | idle | armed | recording
  deriving DecidableEq, Repr, Inhabited

/-- Trigger of a recording (07 R120). -/
inductive RecTrigger
  | now | firstKey | cue
  deriving DecidableEq, Repr, Inhabited

/-- Part mode of a recording (07 R120). -/
inductive RecPartMode
  | split
  | fixed (part : Nat)
  deriving DecidableEq, Repr, Inhabited

/-- Position base with its start frame or its capture clock in 1/256 frames (07 R120, R124). -/
inductive RecBase
  | frames (start : FrameNo)
  | player (clock : Nat)
  deriving DecidableEq, Repr, Inhabited

/-- The Capture Recorder's state (07 R120). -/
structure Recorder where
  state : RecState
  trigger : Option RecTrigger
  partMode : RecPartMode
  pedals : Bool
  pendingBars : Option (Nat × Nat)
  base : Option RecBase
  lastPos : Nat
  sounding : List (Nat × Nat)
  damperValue : Nat
  damperPart : Nat
  deriving DecidableEq, Repr, Inhabited

/-! ## Player (08) -/

/-- Player state (08 R131). -/
inductive PlayerState
  | stopped | armed | locating | running | waiting | flushing
  deriving DecidableEq, Repr, Inhabited

/-- Destination of a flush (08 R131). -/
inductive FlushDest
  | endOfPass
  | endOfTake
  | stop
  | locate (bar : Nat)
  deriving DecidableEq, Repr, Inhabited

/-- Bars of a section: the whole take, or start bar to end bar (08 R138). -/
inductive SectionRange
  | whole
  | bars (first last : Nat)
  deriving DecidableEq, Repr, Inhabited

/-- End action of a section: STOP or CONTINUE (08 R138). -/
inductive EndAction
  | stop | carryOn
  deriving DecidableEq, Repr, Inhabited

/-- A section record (08 R138); `repeats` 0 is endless. -/
structure Section where
  range : SectionRange
  repeats : Nat
  action : EndAction
  deriving DecidableEq, Repr, Inhabited

/-- Mode of a part (08 R131, R137). -/
inductive PartPlay
  | play | mute | guide
  deriving DecidableEq, Repr, Inhabited

/-- Settings of one part and its last sent damper (08 R131). -/
structure PartSetting where
  mode : PartPlay
  stream : Stream
  pending : Option (PartPlay × Stream)
  lastDamper : Nat
  deriving DecidableEq, Repr, Inhabited

/-- A (part, key) pair with the stream its note or guide went on (08 R136). -/
structure PlayPair where
  part : Nat
  key : Nat
  stream : Stream
  deriving DecidableEq, Repr, Inhabited

/-- The Player's state (08 R131). `locate` is the target bar and the search index. -/
structure Player where
  state : PlayerState
  pos : Nat
  rate : Nat
  readIdx : Nat
  gatherLimit : Option Nat
  startTarget : Option Nat
  locate : Option (Nat × Nat)
  flushDest : Option FlushDest
  shadow : Section
  active : Section
  working : Section
  applyPending : Bool
  stopAtEnd : Bool
  freePlay : Bool
  parts : Vector PartSetting 4
  sounding : List PlayPair
  lit : List PlayPair
  expected : List (Nat × Nat)
  follow : Bool
  window : Nat
  mistakes : Nat
  overflows : Nat
  hold : Nat
  lag : ReportFlag
  metronome : Bool
  clickLevel : Nat
  deriving DecidableEq, Repr

/-! ## Mixer (09) -/

/-- Mix mode (09 R151). -/
inductive MixMode
  | blend | liveOnly | takeOnly
  deriving DecidableEq, Repr, Inhabited

/-- A running fade: target and remaining frames (09 R151). -/
structure Fade where
  target : Nat
  remaining : Nat
  deriving DecidableEq, Repr, Inhabited

/-- Trigger of a pending balance change (09 R156). -/
inductive BalTrigger
  | now | atBar | atSection
  deriving DecidableEq, Repr, Inhabited

/-- A pending balance change (09 R156). -/
structure PendingBalance where
  target : Nat
  frames : Nat
  trigger : BalTrigger
  deriving DecidableEq, Repr, Inhabited

/-- A gain table: one gain per volume index (09 R160). -/
abbrev GainTable := Vector Nat 64

/-- One sample period of the tone input (09 R152). -/
structure TonePeriod where
  al : Int
  ar : Int
  bl : Int
  br : Int
  deriving DecidableEq, Repr, Inhabited

/-- A click under way: whether it is beat 1's, its amplitude, how many of its 96 samples have been formed, and whether it is
cut at the end of this frame because METRONOME has been turned off (08 R150). -/
structure Click where
  beatOne : Bool
  amplitude : Nat
  next : Nat
  cut : Bool
  deriving DecidableEq, Repr, Inhabited

/-- The Mixer's state (09 R151), with the six stereo samples sent in the current frame (09 R163). -/
structure Mixer where
  mode : MixMode
  pendingMode : Option MixMode
  bal : Nat
  fade : Option Fade
  pendingBal : Option PendingBalance
  gate : Gate
  gateGain : Nat
  tableL : GainTable
  tableR : GainTable
  index : Nat
  targetL : Nat
  targetR : Nat
  gainL : Nat
  gainR : Nat
  weightA : Nat
  weightB : Nat
  tone : List TonePeriod
  saturation : Nat
  click : Option Click
  headphone : List (Int × Int)
  deriving DecidableEq, Repr

/-! ## Settings Store (04 R72) -/

/-- The settings of the image (04 R72). -/
structure Settings where
  keys : Vector KeyCal 88
  curves : Vector Curve 4
  pedals : Vector PedalCal 3
  tableL : GainTable
  tableR : GainTable
  rail : RailConfig
  track : TrackSettings
  deriving DecidableEq, Repr

/-- Settings source (04 R72). -/
inductive SettingsSource
  | stored | factory
  deriving DecidableEq, Repr, Inhabited

/-- The Settings Store: the image and its validity, the save under way with its image and its age in frames, and the
settings source (04 R72 to R75). -/
structure SettingsStore where
  image : Settings
  valid : Bool
  saveImage : Settings
  saving : Bool
  saveFrames : Nat
  source : SettingsSource
  deriving DecidableEq, Repr

/-! ## Message Unit (10) -/

/-- Main-link state (10 R168). -/
inductive LinkState
  | up | down
  deriving DecidableEq, Repr, Inhabited

/-- The assembler: in ASSEMBLING, the number of content segments taken and their payload bytes (10 R169). -/
inductive Assembler
  | idle
  | assembling (segments : Nat) (bytes : List Byte)
  | discarding
  deriving DecidableEq, Repr, Inhabited

/-- Error codes of ERROR replies (10 R171). -/
inductive ErrorCode
  | unknownCode | badLength | framing | badValue | keyBusy | nvBusy | wrongState
  deriving DecidableEq, Repr, Inhabited

/-- The outcome of executing a message: OK with data, or ERROR with a code (10 R171). -/
inductive MsgResult
  | ok (data : List Byte)
  | err (code : ErrorCode)
  deriving DecidableEq, Repr, Inhabited

/-- A reply in the reply queue, with the number of its segments already sent (10 R172). -/
structure Reply where
  code : Byte
  tag : Byte
  result : MsgResult
  sent : Nat
  deriving DecidableEq, Repr, Inhabited

/-- Kinds of notice (10 R173). -/
inductive NoticeKind
  | railDone | railFault | keyFault | calDone | nvDone | scanLost | scanLocked | captureFull | playerStopped | lag
  | queueOverrun | linkRestored
  deriving DecidableEq, Repr, Inhabited

/-- A notice: kind, frame number of raising, data bytes (10 R173). -/
structure Notice where
  kind : NoticeKind
  frame : FrameNo
  data : List Byte
  deriving DecidableEq, Repr, Inhabited

/-- The Message Unit's state (10 R177) but for the frame number, which stands in the clock. `audio` holds the accepted
downstream frame's audio for the Mixer (10 R167); `resetDue` says that the last segment of the RESET reply has been sent
(10 R176); `upstream` is the upstream frame last sent (10 R166). -/
structure MessageUnit where
  link : LinkState
  badRun : Nat
  goodRun : Nat
  outage : Nat
  verdict : Option Verdict
  audio : Option (List TonePeriod)
  assembler : Assembler
  replies : List Reply
  notices : List Notice
  resetPending : Bool
  resetDue : Bool
  linkErrors : Nat
  framingErrors : Nat
  discarded : Nat
  noticeDrops : Nat
  upstream : List Byte
  deriving DecidableEq, Repr, Inhabited

/-- The frame clock: the frame number, and whether a frame tick has happened since the last reset (10 R176, R177). -/
structure Clock where
  frame : FrameNo
  started : Bool
  deriving DecidableEq, Repr, Inhabited

end Sys2Proof.Machine
end

