-- ==== Sys2Proof/Machine/ResetValues.lean ====
section
/-! DEFINITION. Factory values of the settings (02 R35, R41; 03 R57; 04 R58; 06 R95; 09 R160) and the values every block takes
at a reset (01 R6, R7; 03 R42; 04 R58, R67, R69; 05 R77; 06 R91, R94; 07 R114, R116, R120; 08 R131; 09 R151; 10 R177). -/

namespace Sys2Proof.Machine

/-- A vector written by its entries. -/
def vecOf (n : Nat) {α : Type} (f : Nat → α) : Vector α n :=
  ⟨((List.range n).map f).toArray, by simp⟩

/-- A function applied to every entry of a vector. -/
def mapVec {α β : Type} {n : Nat} (f : α → β) (v : Vector α n) : Vector β n :=
  ⟨(v.toList.map f).toArray, by simp⟩

/-! ## Factory settings -/

/-- The factory calibration part of a key (04 R58). -/
def factoryKeyCal : KeyCal :=
  { rest := 400, bottom := 3600, tOff := 80, tStart := 120, tRearm := 600, tStrike := 880, curve := 0, trim := 0,
    mode := .manual, restLo := 200, restHi := 800, enabled := true }

/-- Entry c of every factory curve (02 R35). -/
def factoryCurveEntry (c : Nat) : Nat := 127 - (126 * c) / 255

/-- A factory curve (02 R35). -/
def factoryCurve : Curve := vecOf 256 factoryCurveEntry

/-- The factory tracking settings (02 R38). -/
def factoryTrack : TrackSettings :=
  { travelLimit := 32000, flightFrames := 320, clearanceLine := 300, splitKey := 39 }

/-- The factory calibration part of a pedal (03 R57). -/
def factoryPedalCal : PedalCal :=
  { rest := 400, bottom := 3600, deadband := 2, map := vecOf 17 (fun i => if i = 16 then 127 else 8 * i) }

/-- The factory rail configuration (06 R95). -/
def factoryRailConfig : RailConfig :=
  { motionLimit := 1200, clearTimeout := 3000, silentMode := .hold, acousticMode := .coast, faultMode := .coast }

/-- The factory gains by volume index: 32768 × 10^((i − 63) × 0.75 ÷ 20) rounded, and 0 at index 0 (09 R160). -/
def factoryGains : List Nat :=
  [0, 155, 169, 184, 201, 219, 239, 260, 284, 309, 337, 368, 401, 437, 476, 519] ++
  [566, 617, 673, 734, 800, 872, 950, 1036, 1130, 1232, 1343, 1464, 1596, 1740, 1896, 2068] ++
  [2254, 2457, 2679, 2920, 3184, 3471, 3784, 4125, 4497, 4903, 5345, 5827, 6353, 6925, 7550, 8231] ++
  [8973, 9783, 10665, 11627, 12675, 13818, 15064, 16423, 17904, 19519, 21279, 23198, 25290, 27571, 30057, 32768]

/-- A factory gain table (09 R160). -/
def factoryGainTable : GainTable := vecOf 64 (fun i => factoryGains.getD i 0)

/-- The factory settings, all of R72 (04 R75). -/
def factorySettings : Settings :=
  { keys := Vector.replicate 88 factoryKeyCal, curves := Vector.replicate 4 factoryCurve,
    pedals := Vector.replicate 3 factoryPedalCal, tableL := factoryGainTable, tableR := factoryGainTable,
    rail := factoryRailConfig, track := factoryTrack }

/-! ## Reset values of the blocks -/

/-- The Scan Receiver after either reset (01 R6). -/
def resetScan : ScanReceiver :=
  { lock := .unlocked, badRun := 0, goodRun := 0, errors := 0, verdict := none, lastTaken := none, timing := none }

/-- A key record after either reset, with its restored calibration part (01 R7, 04 R58, R67). -/
def resetKey (cal : KeyCal) : KeyRecord :=
  { cal := cal, stabRef := none, stabCount := 0, job := .notListed, motion := .rest, note := .idle, depth := 0,
    lastFrame := none, mark := none, lastVelocity := none, flight := 0, member := false, faultRun := 0, part := 0 }

/-- The Key Tracker after either reset, with the restored settings (01 R7, 02 R35, R41). -/
def resetTracker (set : Settings) : KeyTracker :=
  { keys := mapVec resetKey set.keys, curves := set.curves, track := set.track, flightSet := [], deepCount := 0 }

/-- A pedal record after either reset, with its restored calibration part (03 R42). -/
def resetPedal (cal : PedalCal) : PedalRecord :=
  { cal := cal, awaiting := true, value := 0, lastSent := none, interval := 0 }

/-- The Pedal Unit after either reset (03 R42, R57). -/
def resetPedalUnit (set : Settings) : PedalUnit :=
  { pedals := mapVec resetPedal set.pedals, damper := .released, sostenuto := .released }

/-- The Calibration Unit after either reset (04 R67, R69). -/
def resetCal : CalUnit :=
  { faultList := [], overflow := false, running := false, first := 0, last := 0, frames := 0 }

/-- The Event Queue after either reset (05 R77). -/
def resetQueue : EventQueue :=
  { records := [], drops := 0, refusals := 0, overrun := .armed, slots := [] }

/-- The rail state taken from the end switches at a reset (06 R94). -/
def railStateOf (sw : Switches) : RailState :=
  match sw.acoustic, sw.silent with
  | false, true => .silent
  | true, false => .acoustic
  | false, false => .unknown
  | true, true => .railFault

/-- The live gate for a rail state, origin and monitor flag (06 R111). -/
def gateOf (state : RailState) (origin : Option RailOrigin) (monitor : Bool) : Gate :=
  if monitor then .opened
  else if state = .acoustic then .closed
  else if state = .waiting ∧ origin = some .acoustic then .closed
  else .opened

/-- The interlock evaluation reported before the first evaluation after a reset: not satisfied (DESIGN CHOICE, log 9). -/
def resetInterlock : Interlock :=
  { satisfied := false, flightSize := 0, deep := 0, lock := .unlocked, overflow := false }

/-- The Rail Controller after either reset (06 R91, R94): the driver is COAST until the first frame tick. -/
def resetRail (sw : Switches) (cfg : RailConfig) : Rail :=
  { state := railStateOf sw, origin := none, target := none, next := none,
    reason := if sw.acoustic && sw.silent then some .switchConflict else none,
    driver := .coast, clearance := 0, motion := 0, pause := 0, pauseCount := 0, startLimit := 0,
    acousticSwitch := sw.acoustic, silentSwitch := sw.silent, monitor := false,
    gate := gateOf (railStateOf sw) none false, eval := resetInterlock, config := cfg }

/-- The default header (07 R116). -/
def defaultHeader : AreaHeader := { count := 0, barLen := 16000, beats := 4 }

/-- The record every slot holds after a pin reset (07 R114): END, delta 0, other fields 0. It is what an unlisted slot
reads as. -/
def blankRecord : TakeRecord := { delta := 0, kind := .endMark, part := 0, key := 0, value := 0, sub := 0 }

/-- An area after a pin reset (07 R114). -/
def blankArea : Area := { slots := [], header := defaultHeader }

/-- Event memory after a pin reset (07 R114). -/
def pinResetMemory : TakeMemory := { area0 := blankArea, area1 := blankArea, takeIsArea0 := true }

/-- Event memory after a soft reset: roles, slots and take header kept, the CAPTURE area emptied with the default header
(07 R114). -/
def softResetMemory (m : TakeMemory) : TakeMemory :=
  if m.takeIsArea0 then { m with area1 := { m.area1 with header := defaultHeader } }
  else { m with area0 := { m.area0 with header := defaultHeader } }

/-- The Capture Recorder after either reset (07 R120). -/
def resetRecorder : Recorder :=
  { state := .idle, trigger := none, partMode := .split, pedals := false, pendingBars := none, base := none,
    lastPos := 0, sounding := [], damperValue := 0, damperPart := 0 }

/-- The section every copy holds after a reset: whole take, 1 repeat, STOP (08 R131). -/
def resetSection : Section := { range := .whole, repeats := 1, action := .stop }

/-- The part settings after a reset: PLAY, B, none pending, last sent damper 0 (08 R131). -/
def resetPart : PartSetting := { mode := .play, stream := .b, pending := none, lastDamper := 0 }

/-- The Player after either reset (08 R131). -/
def resetPlayer : Player :=
  { state := .stopped, pos := 0, rate := 256, readIdx := 0, gatherLimit := none, startTarget := none, locate := none,
    flushDest := none, shadow := resetSection, active := resetSection, working := resetSection, applyPending := false,
    stopAtEnd := false, freePlay := false, parts := Vector.replicate 4 resetPart, sounding := [], lit := [],
    expected := [], follow := false, window := 240, mistakes := 0, overflows := 0, hold := 0, lag := .armed,
    metronome := false, clickLevel := 262144 }

/-- A silent tone input (09 R151). -/
def silentTone : List TonePeriod := List.replicate 6 { al := 0, ar := 0, bl := 0, br := 0 }

/-- The Mixer after either reset, with the restored gain tables and the gate handed by the Rail Controller (09 R151). -/
def resetMixer (set : Settings) (gate : Gate) : Mixer :=
  { mode := .liveOnly, pendingMode := none, bal := 16384, fade := none, pendingBal := none, gate := gate, gateGain := 0,
    tableL := set.tableL, tableR := set.tableR, index := 40, targetL := 0, targetR := 0, gainL := 0, gainR := 0,
    weightA := 0, weightB := 0, tone := silentTone, saturation := 0, click := none,
    headphone := List.replicate 6 (0, 0) }

/-- The Message Unit after a reset; the link is DOWN after a pin reset and UP after a soft reset (10 R177). -/
def resetMsg (link : LinkState) : MessageUnit :=
  { link := link, badRun := 0, goodRun := 0, outage := 0, verdict := none, audio := none, assembler := .idle,
    replies := [], notices := [], resetPending := false, resetDue := false, linkErrors := 0, framingErrors := 0,
    discarded := 0, noticeDrops := 0, upstream := [] }

/-- The settings a restore loads: the image of a valid store, else the factory values (04 R75). -/
def restoredSettings (st : SettingsStore) : Settings := if st.valid then st.image else factorySettings

/-- The store after a restore at start-up: a save under way is abandoned and the settings source is set (04 R74, R75). -/
def resetStore (st : SettingsStore) : SettingsStore :=
  { st with saving := false, saveFrames := 0, source := if st.valid then .stored else .factory }

/-- A store never written: invalid (DESIGN CHOICE for State.reset, log 6). -/
def blankStore : SettingsStore :=
  { image := factorySettings, valid := false, saveImage := factorySettings, saving := false, saveFrames := 0,
    source := .factory }

end Sys2Proof.Machine
end

