-- ==== Sys2Proof/Machine/State.lean ====
section
/-! DEFINITION. The state of the ULW880, the reasons a step could stop, and the state right after a pin reset. -/

namespace Sys2Proof.Machine

/-- The whole state: one field per block (00 section 2), the clock, and two fields of the model's own: `free` counts the
free values drawn (log 38) and `pending` holds the waiting commands, first in, first out. -/
structure State where
  clock : Clock
  scan : ScanReceiver
  tracker : KeyTracker
  pedalUnit : PedalUnit
  cal : CalUnit
  store : SettingsStore
  queue : EventQueue
  rail : Rail
  memory : TakeMemory
  recorder : Recorder
  player : Player
  mixer : Mixer
  msg : MessageUnit
  free : Nat
  pending : List Instr
  deriving DecidableEq, Repr

/-- Reasons of a fault: none. No command of the table stops the block; what the manual calls faults (a key in FAULT,
RAIL_FAULT, ERROR replies) is state. -/
inductive Fault
  deriving DecidableEq, Repr

/-- Reasons of a refusal. -/
inductive Refusal
  /-- Raised by `exec` alone, for a command that has no meaning yet; safe. No arm of `exec` raises it now. -/
  | notModelled (mnemonic : String)
  deriving DecidableEq, Repr

/-- The machine after a pin reset on the given end switches, with the Settings Store, the free counter and the waiting
commands that stand (04 R75; 06 R94; 07 R114; 10 R177). -/
def State.afterPinReset (sw : Switches) (store : SettingsStore) (free : Nat) (pending : List Instr) : State :=
  let set := restoredSettings store
  let rail := resetRail sw set.rail
  { clock := { frame := 0, started := false }
    scan := resetScan
    tracker := resetTracker set
    pedalUnit := resetPedalUnit set
    cal := resetCal
    store := resetStore store
    queue := resetQueue
    rail := rail
    memory := pinResetMemory
    recorder := resetRecorder
    player := resetPlayer
    mixer := resetMixer set rail.gate
    msg := resetMsg .down
    free := free
    pending := pending }

/-- The machine right after a pin reset at its first power-on: the store invalid (log 6), neither end switch asserted
(log 7), no command waiting. -/
def State.reset : State :=
  State.afterPinReset { acoustic := false, silent := false } blankStore 0 []

end Sys2Proof.Machine
end

