-- ==== Sys2Proof/Machine/Ops.lean ====
section
/-! DEFINITION. The named operations every block shares: arithmetic (00 sections 4.2, 4.3), field encoding (11 R178), access to
the Key Table, notices (10 R173), replies and message completion (10 R171), the Event Queue's admission of playback records
(05 R79, R82), the slots of event memory (07 R114). -/

namespace Sys2Proof.Machine

/-! ## Arithmetic -/

/-- One more, saturating at `max` (00 section 4.2). -/
def satInc (max n : Nat) : Nat := min max (n + 1)

/-- `n` clamped to `lo..hi` (00 section 4.2). -/
def clampNat (lo hi n : Nat) : Nat := if n < lo then lo else if hi < n then hi else n

/-- `n` clamped to `lo..hi` (00 section 4.2). -/
def clampInt (lo hi n : Int) : Int := if n < lo then lo else if hi < n then hi else n

/-- The size of `a − b`. -/
def distance (a b : Nat) : Nat := (a - b) + (b - a)

/-- `x` with gain `g` applied: x × g, rounded to nearest, halves toward plus infinity (00 section 4.3). -/
def applyGain (x : Int) (g : Nat) : Int := (x * g + 16384) / 32768

/-- `from_` moved toward `target` by at most `step` (09 R155, R159). -/
def slew (step target from_ : Nat) : Nat :=
  if from_ ≤ target then (if target - from_ ≤ step then target else from_ + step)
  else (if from_ - target ≤ step then target else from_ - step)

/-- A raw key or pedal sample set against rest and bottom: (raw − rest) × 1024 ÷ span, truncated toward zero, limited to
0..1023 (01 R10, 03 R44). -/
def normalise (rest bottom raw : Nat) : Nat :=
  (clampInt 0 1023 ((((raw : Int) - rest) * 1024).tdiv ((bottom : Int) - rest))).toNat

/-- A raw value that is a fault sample (01 R9, 03 R44). -/
def isFaultRaw (raw : Nat) : Bool := raw == 0 || raw == 4095

/-! ## Field encoding (11 R178) -/

/-- `n` in `w` bytes, least significant first. -/
def leBytes : Nat → Nat → List Byte
  | 0, _ => []
  | w + 1, n => BitVec.ofNat 8 n :: leBytes w (n / 256)

/-- A yes or no, or a flag, in one byte. -/
def boolByte (b : Bool) : List Byte := [if b then 1 else 0]

/-- A signed byte (a trim). -/
def signedByte (i : Int) : List Byte := [BitVec.ofInt 8 i]

/-- A field that may be absent: its presence byte, then the field, 0 when absent. -/
def optBytes (w : Nat) (o : Option Nat) : List Byte :=
  match o with
  | none => 0 :: leBytes w 0
  | some n => 1 :: leBytes w n

/-- The sum of bytes modulo 256 (the check byte). -/
def sumBytes (bs : List Byte) : Byte := bs.foldl (· + ·) 0

/-! ## Free values (log 38) -/

/-- The `n` free bytes drawn next. -/
def freeBytes (s : State) (n : Nat) : List Byte := (List.range n).map (fun i => Config.freeByte (s.free + i))

/-- The sub-frame drawn next, 0..15 (log 27). -/
def freeSub (s : State) : Nat := (Config.freeByte s.free).toNat % 16

/-- The state after `n` free values have been drawn. -/
def State.drawn (s : State) (n : Nat) : State := { s with free := s.free + n }

/-! ## Key Table -/

/-- The record of key `k`. -/
def State.key (s : State) (k : KeyIdx) : KeyRecord := s.tracker.keys[k.val]

/-- The state with the record of key `k` replaced. -/
def State.setKey (s : State) (k : KeyIdx) (r : KeyRecord) : State :=
  { s with tracker := { s.tracker with keys := s.tracker.keys.set k.val r k.isLt } }

/-- All keys in ascending order. -/
def allKeys : List KeyIdx := List.finRange 88

/-- A key index read from a number, where it is one. -/
def keyOf (n : Nat) : Option KeyIdx := if h : n < 88 then some ⟨n, h⟩ else none

/-- The keys `first .. first + count − 1` that exist. -/
def keyRange (first count : Nat) : List KeyIdx :=
  allKeys.filter (fun k => decide (first ≤ k.val) && decide (k.val < first + count))

/-- The sostenuto set: the keys marked members, in ascending order (03 R42). -/
def sostenutoSet (s : State) : List KeyIdx := allKeys.filter (fun k => (s.key k).member)

/-- A key is awaiting its first sample exactly when its last sample frame is absent (01 R7). -/
def KeyRecord.awaitingFirst (r : KeyRecord) : Bool := r.lastFrame.isNone

/-- The flight set and deep count recomputed from the key records and the clearance line in force (01 R22, R23). -/
def recomputeSets (s : State) : State :=
  { s with tracker := { s.tracker with
      flightSet := allKeys.filter (fun k => decide (0 < (s.key k).flight))
      deepCount := (allKeys.filter (fun k => (s.key k).cal.enabled && decide ((s.key k).motion ≠ .fault) &&
        decide (s.tracker.track.clearanceLine ≤ (s.key k).depth))).length } }

/-! ## Pedals -/

/-- The record of pedal `p`. -/
def State.pedal (s : State) (p : PedalIdx) : PedalRecord := s.pedalUnit.pedals[p.val]

/-- The state with the record of pedal `p` replaced. -/
def State.setPedal (s : State) (p : PedalIdx) (r : PedalRecord) : State :=
  { s with pedalUnit := { s.pedalUnit with pedals := s.pedalUnit.pedals.set p.val r p.isLt } }

/-! ## Notices (10 R173) -/

/-- A notice raised: appended where fewer than 10 are held, else dropped and counted (10 R173). -/
def raiseNotice (kind : NoticeKind) (data : List Byte) (s : State) : State :=
  if s.msg.notices.length < 10 then
    { s with msg := { s.msg with notices := s.msg.notices ++ [{ kind := kind, frame := s.clock.frame, data := data }] } }
  else { s with msg := { s.msg with noticeDrops := satInc 255 s.msg.noticeDrops } }

/-! ## Replies and the completion of a message (10 R171) -/

/-- A reply appended to the reply queue. -/
def appendReply (code tag : Byte) (r : MsgResult) (s : State) : State :=
  { s with msg := { s.msg with replies := s.msg.replies ++ [{ code := code, tag := tag, result := r, sent := 0 }] } }

/-- The execution of one message by its owner: the state it leaves and its result. -/
abbrev MsgOp := State → State × MsgResult

/-- The message window: messages are executed while fewer than 4 replies wait and no soft reset is pending (10 R171). -/
def windowOpen (s : State) : Bool := !s.msg.resetPending && decide (s.msg.replies.length < 4)

/-- A message that completes: discarded while a reset is pending, discarded and counted when the reply queue holds 4
replies, else executed by its owner and answered by one reply (10 R171). -/
def completeMessage (code tag : Byte) (op : MsgOp) (s : State) : State :=
  if s.msg.resetPending then s
  else if 4 ≤ s.msg.replies.length then
    { s with msg := { s.msg with discarded := satInc 65535 s.msg.discarded } }
  else appendReply code tag (op s).2 (op s).1

/-! ## Event Queue -/

/-- The playback count: records in the queue whose source is PLAYBACK (05 R77). -/
def EventQueue.playbackCount (q : EventQueue) : Nat := (q.records.filter (fun r => decide (r.source = .playback))).length

/-- A record appended at the tail with age 0 (05 R80). -/
def enqueue (r : EventRecord) (s : State) : State :=
  { s with queue := { s.queue with records := s.queue.records ++ [{ r with age := 0 }] } }

/-- The value limits of an admitted playback record (05 R79). -/
def limitValue (r : EventRecord) : EventRecord :=
  match r.kind with
  | .noteOn | .guideOn => { r with value := clampNat 1 127 r.value }
  | .damper | .sostenuto | .soft => { r with value := clampNat 0 127 r.value }
  | .noteOff | .guideOff => { r with value := 0 }
  | .miss => r

/-- A playback record presented: admitted at an occupancy of 63 or less, with its value limited, else refused
(05 R79, R82). -/
def presentPlayback (r : EventRecord) (s : State) : State × Bool :=
  if s.queue.records.length ≤ 63 then (enqueue (limitValue r) s, true) else (s, false)

/-! ## Event memory (07 R114) -/

/-- The record of slot `i`: the listed one, else the pin-reset record. -/
def slotAt : Slots → Nat → TakeRecord
  | [], _ => blankRecord
  | (j, r) :: rest, i => if i = j then r else slotAt rest i

/-- A record stored in slot `i`, keeping the slots rising and no blank record listed. -/
def slotPut : Slots → Nat → TakeRecord → Slots
  | [], i, r => if r = blankRecord then [] else [(i, r)]
  | (j, q) :: rest, i, r =>
    if i < j then (if r = blankRecord then (j, q) :: rest else (i, r) :: (j, q) :: rest)
    else if i = j then (if r = blankRecord then rest else (i, r) :: rest)
    else (j, q) :: slotPut rest i r

/-- The canonical form of an area's slots: slots strictly rising, none blank. -/
def slotsWf : Slots → Bool
  | [] => true
  | [(_, r)] => decide (r ≠ blankRecord)
  | (i, r) :: (j, q) :: rest => decide (r ≠ blankRecord) && decide (i < j) && slotsWf ((j, q) :: rest)

/-- Event memory is in canonical form. -/
def Memory.wf (m : TakeMemory) : Bool := slotsWf m.area0.slots && slotsWf m.area1.slots

/-- The TAKE area (07 R114). -/
def TakeMemory.take (m : TakeMemory) : Area := if m.takeIsArea0 then m.area0 else m.area1

/-- The CAPTURE area (07 R114). -/
def TakeMemory.capture (m : TakeMemory) : Area := if m.takeIsArea0 then m.area1 else m.area0

/-- Event memory with the TAKE area replaced. -/
def TakeMemory.setTake (m : TakeMemory) (a : Area) : TakeMemory :=
  if m.takeIsArea0 then { m with area0 := a } else { m with area1 := a }

/-- Event memory with the CAPTURE area replaced. -/
def TakeMemory.setCapture (m : TakeMemory) (a : Area) : TakeMemory :=
  if m.takeIsArea0 then { m with area1 := a } else { m with area0 := a }

/-- The position of slot `i`, in frames: the sum of the deltas of slots 0 to `i` (07 R115). -/
def positionOf (slots : Slots) (i : Nat) : Nat :=
  ((slots.filter (fun e => decide (e.1 ≤ i))).map (fun e => e.2.delta)).sum

/-- The slot of the first END below the record count, or the record count where there is none (07 R115). -/
def firstEnd (a : Area) : Nat :=
  ((List.range a.header.count).find? (fun i => decide ((slotAt a.slots i).kind = .endMark))).getD a.header.count

/-- The end position of a list: that of its first END, else of its last record, else 0 (07 R115). -/
def endPosition (a : Area) : Nat :=
  if firstEnd a < a.header.count then positionOf a.slots (firstEnd a)
  else if a.header.count = 0 then 0
  else positionOf a.slots (a.header.count - 1)

end Sys2Proof.Machine
end

