-- ==== Sys2Proof/Machine/Operands.lean ====
section
/-! DEFINITION. The operand forms of the commands: the fields of message bodies (11 R178, R180), take records (11 R181), scan
words and audio words (11 R178, R179). -/

namespace Sys2Proof.Machine

/-! ## Fields of a body -/

/-- The 1-byte field at offset `i`. -/
def u8At (b : List Byte) (i : Nat) : Nat := (b.getD i 0).toNat

/-- The 2-byte field at offset `i`, least significant byte first. -/
def u16At (b : List Byte) (i : Nat) : Nat := u8At b i + 256 * u8At b (i + 1)

/-- The 3-byte field at offset `i`. -/
def u24At (b : List Byte) (i : Nat) : Nat := u16At b i + 65536 * u8At b (i + 2)

/-- The 4-byte field at offset `i`. -/
def u32At (b : List Byte) (i : Nat) : Nat := u16At b i + 65536 * u16At b (i + 2)

/-- The signed 1-byte field at offset `i` (a trim). -/
def s8At (b : List Byte) (i : Nat) : Int := (b.getD i 0).toInt

/-- The signed 3-byte field at offset `i` (an audio word, two's complement). -/
def s24At (b : List Byte) (i : Nat) : Int :=
  if u24At b i < 8388608 then (u24At b i : Int) else (u24At b i : Int) - 16777216

/-! ## Scan frame -/

/-- The raw value of a sample word: bits 0 to 11 (11 R178). -/
def rawOf (w : ScanWord) : Nat := w.toNat % 4096

/-- The sample word of index `i`, keys 0..87 then pedals 88..90 (11 R179). -/
def sampleAt (words : List ScanWord) (i : Nat) : Nat := rawOf (words.getD i 0)

/-- One bit of the CRC: generator x^16 + x^12 + x^5 + 1 (01 R2). -/
def crcBit (crc : ScanWord) (bit : Bool) : ScanWord :=
  if (crc.msb ^^ bit) then (crc <<< 1) ^^^ 0x1021#16 else crc <<< 1

/-- The CRC of one word, most significant bit first (01 R2). -/
def crcWord (crc w : ScanWord) : ScanWord :=
  (List.range 16).foldl (fun c i => crcBit c (w.getLsbD (15 - i))) crc

/-- The CRC over the words before the CRC word: initial value all ones, no final inversion (01 R2). -/
def crcOf (words : List ScanWord) : ScanWord := (words.take 92).foldl crcWord 0xFFFF#16

/-! ## Downstream frame -/

/-- The audio words of a downstream frame: six periods of A_l, A_r, B_l, B_r (11 R179). -/
def toneOf (frame : List Byte) : List TonePeriod :=
  (List.range 6).map (fun p =>
    { al := s24At frame (2 + 12 * p), ar := s24At frame (5 + 12 * p),
      bl := s24At frame (8 + 12 * p), br := s24At frame (11 + 12 * p) })

/-- The segment of a downstream frame: a control byte and 15 payload bytes (11 R179). -/
def segmentOf (frame : List Byte) : List Byte := frame.drop 74

/-- FIRST, LAST and IDLE of a control byte: bits 0, 1 and 2 (11 R179). -/
def ctlFirst (ctl : Byte) : Bool := ctl.getLsbD 0
/-- LAST, bit 1. -/
def ctlLast (ctl : Byte) : Bool := ctl.getLsbD 1
/-- IDLE, bit 2. -/
def ctlIdle (ctl : Byte) : Bool := ctl.getLsbD 2

/-- A downstream frame is well formed: 90 bytes, frame mark 0xC3 0x5A, and IDLE not set together with FIRST or LAST
(10 R167, 11 R179). -/
def downstreamWellFormed (frame : List Byte) : Bool :=
  decide (frame.length = 90) && decide (u8At frame 0 = 0xC3) && decide (u8At frame 1 = 0x5A) &&
    !(ctlIdle (frame.getD 74 0) && (ctlFirst (frame.getD 74 0) || ctlLast (frame.getD 74 0)))

/-! ## Calibration parts -/

/-- The calibration part a KEY_CAL_WRITE carries, trim not yet clamped (04 R59, 11 R180). -/
def keyCalOfBody (b : List Byte) : KeyCal :=
  { rest := u16At b 1, bottom := u16At b 3, tOff := u16At b 5, tStart := u16At b 7, tRearm := u16At b 9,
    tStrike := u16At b 11, curve := u8At b 13, trim := s8At b 14,
    mode := if u8At b 15 = 1 then .auto else .manual,
    restLo := u16At b 16, restHi := u16At b 18, enabled := decide (u8At b 20 = 1) }

/-- Check 2 of R59, apart from the key index: field ranges. -/
def keyCalRangesOk (b : List Byte) : Bool :=
  let c := keyCalOfBody b
  decide (c.curve ≤ 3) && decide (u8At b 15 ≤ 1) && decide (u8At b 20 ≤ 1) && decide (c.tOff ≤ 1023) &&
    decide (c.tStart ≤ 1023) && decide (c.tRearm ≤ 1023) && decide (c.tStrike ≤ 1023) &&
    decide (c.restLo ≤ 4095) && decide (c.restHi ≤ 4095)

/-- The line ordering, the two minimum separations and the order of the bounds (04 R58; check 3 of R59). -/
def linesOk (c : KeyCal) : Bool :=
  decide (c.restLo ≤ c.restHi) && decide (c.tOff < c.tStart) && decide (c.tStart < c.tRearm) &&
    decide (c.tRearm < c.tStrike) && decide (c.tStart + 64 ≤ c.tStrike) && decide (c.tRearm + 32 ≤ c.tStrike)

/-- Rest and bottom in range and a span of at least 128 in size (04 R58, check 4 of R59; 03 R55). -/
def spanOk (rest bottom : Nat) : Bool :=
  decide (rest ≤ 4095) && decide (bottom ≤ 4095) && decide (128 ≤ distance bottom rest)

/-- The calibration part a PEDAL_CAL_WRITE stores: deadband and map points limited (03 R55). -/
def pedalCalOfBody (b : List Byte) : PedalCal :=
  { rest := u16At b 1, bottom := u16At b 3, deadband := clampNat 0 16 (u8At b 5),
    map := vecOf 17 (fun i => clampNat 0 127 (u8At b (6 + i))) }

/-- How many fields of a PEDAL_CAL_WRITE are clamped (03 R55). -/
def pedalCalClamps (b : List Byte) : Nat :=
  (if 16 < u8At b 5 then 1 else 0) + ((List.range 17).filter (fun i => decide (127 < u8At b (6 + i)))).length

/-! ## Lists of values -/

/-- The 2-byte values of a list. -/
def u16List : List Byte → List Nat
  | lo :: hi :: rest => (lo.toNat + 256 * hi.toNat) :: u16List rest
  | _ => []

/-! ## Take records -/

/-- The kind code of a take record (11 R181). -/
def takeKindOf (code : Nat) : Option TakeKind :=
  match code with
  | 1 => some .noteOn
  | 2 => some .noteOff
  | 3 => some .damper
  | 4 => some .sostenuto
  | 5 => some .soft
  | 6 => some .spacer
  | 7 => some .endMark
  | _ => none

/-- The 8 bytes of record `i` of a TAKE_WRITE body (07 R118). -/
def recordBytes (b : List Byte) (i : Nat) : List Byte := (b.drop (2 + 8 * i)).take 8

/-- A take record read from its 8 bytes where the part accepts it: known kind, part, sub-frame, key or pedal and delta in
range, check byte right; the key and value of a SPACER or END become 0 (07 R118, 11 R178, R181). -/
def takeRecordOf (r : List Byte) : Option TakeRecord :=
  match takeKindOf (u8At r 2) with
  | none => none
  | some kind =>
    let keyOk := match kind with
      | .noteOn | .noteOff => decide (u8At r 4 ≤ 87)
      | .damper | .sostenuto | .soft => decide (u8At r 4 ≤ 2)
      | .spacer => decide (u16At r 0 = 65535)
      | .endMark => true
    let plain := decide (kind = .spacer) || decide (kind = .endMark)
    if keyOk && decide (u8At r 3 ≤ 3) && decide (u8At r 6 ≤ 15) && decide (sumBytes (r.take 7) = r.getD 7 0) then
      some { delta := u16At r 0, kind := kind, part := u8At r 3, key := if plain then 0 else u8At r 4,
             value := if plain then 0 else u8At r 5, sub := u8At r 6 }
    else none

end Sys2Proof.Machine
end

