-- ==== Sys2Proof/Machine/Flags.lean ====
section
/-! DEFINITION. The codes of states, modes, results and reasons (11 R178: in the order in which the owning rule first lists the
values, where the rule gives no codes), and the layouts of records and of the status field (11 R179, R181). -/

namespace Sys2Proof.Machine

/-! ## Codes -/

/-- 01 R4. -/
def Lock.code : Lock → Nat | .locked => 0 | .unlocked => 1
/-- 01 R7. -/
def Motion.code : Motion → Nat
  | .rest => 0 | .travel => 1 | .sounding => 2 | .rearmed => 3 | .retravel => 4 | .silent => 5 | .fault => 6
/-- 01 R7. -/
def NoteStatus.code : NoteStatus → Nat | .idle => 0 | .active => 1 | .held => 2 | .owed => 3 | .lost => 4
/-- 04 R59. -/
def CalMode.code : CalMode → Nat | .manual => 0 | .auto => 1
/-- 04 R61. -/
def JobCond.code : JobCond → Nat | .notListed => 0 | .counting _ _ => 1 | .done => 2 | .dropped => 3
/-- 03 R42. -/
def Engage.code : Engage → Nat | .engaged => 0 | .released => 1
/-- 05 R77. -/
def ReportFlag.code : ReportFlag → Nat | .armed => 0 | .sent => 1
/-- 11 R181, event kinds. -/
def EventKind.code : EventKind → Nat
  | .noteOn => 1 | .noteOff => 2 | .damper => 3 | .sostenuto => 4 | .soft => 5 | .guideOn => 6 | .guideOff => 7 | .miss => 8
/-- 11 R181, take kinds. -/
def TakeKind.code : TakeKind → Nat
  | .noteOn => 1 | .noteOff => 2 | .damper => 3 | .sostenuto => 4 | .soft => 5 | .spacer => 6 | .endMark => 7
/-- 08 R137. -/
def Stream.code : Stream → Nat | .a => 0 | .b => 1
/-- 06 R91. -/
def RailState.code : RailState → Nat
  | .acoustic => 0 | .silent => 1 | .unknown => 2 | .waiting => 3 | .engaging => 4 | .releasing => 5 | .paused => 6
  | .railFault => 7
/-- 06 R91. -/
def RailEnd.code : RailEnd → Nat | .acoustic => 0 | .silent => 1
/-- 06 R91. -/
def RailOrigin.code : RailOrigin → Nat | .acoustic => 0 | .silent => 1 | .unknown => 2
/-- 06 R91. -/
def RailReason.code : RailReason → Nat | .stall => 0 | .blocked => 1 | .switchConflict => 2
/-- 06 R91. -/
def Driver.code : Driver → Nat | .driveIn => 0 | .driveOut => 1 | .coast => 2 | .brake => 3 | .hold => 4
/-- 06 R96. -/
def ReleaseMode.code : ReleaseMode → Nat | .coast => 0 | .brake => 1 | .hold => 2
/-- 06 R96. -/
def FaultMode.code : FaultMode → Nat | .coast => 0 | .brake => 1
/-- 06 R91. -/
def Gate.code : Gate → Nat | .opened => 0 | .closed => 1
/-- 07 R120. -/
def RecState.code : RecState → Nat | .idle => 0 | .armed => 1 | .recording => 2
/-- 08 R131. -/
def PlayerState.code : PlayerState → Nat
  | .stopped => 0 | .armed => 1 | .locating => 2 | .running => 3 | .waiting => 4 | .flushing => 5
/-- 08 R137. -/
def PartPlay.code : PartPlay → Nat | .play => 0 | .mute => 1 | .guide => 2
/-- 08 R138. -/
def EndAction.code : EndAction → Nat | .stop => 0 | .carryOn => 1
/-- 09 R154. -/
def MixMode.code : MixMode → Nat | .blend => 0 | .liveOnly => 1 | .takeOnly => 2
/-- 09 R156. -/
def BalTrigger.code : BalTrigger → Nat | .now => 0 | .atBar => 1 | .atSection => 2
/-- 04 R72. -/
def SettingsSource.code : SettingsSource → Nat | .stored => 0 | .factory => 1
/-- 11 R180. -/
def ErrorCode.code : ErrorCode → Nat
  | .unknownCode => 1 | .badLength => 2 | .framing => 3 | .badValue => 4 | .keyBusy => 5 | .nvBusy => 6 | .wrongState => 7
/-- 11 R180. -/
def NoticeKind.code : NoticeKind → Nat
  | .railDone => 1 | .railFault => 2 | .keyFault => 3 | .calDone => 4 | .nvDone => 5 | .scanLost => 6 | .scanLocked => 7
  | .captureFull => 8 | .playerStopped => 9 | .lag => 10 | .queueOverrun => 11 | .linkRestored => 12

/-! ## Records on the link (11 R181) -/

/-- Seven bytes followed by their check byte (11 R178). -/
def withCheck (bs : List Byte) : List Byte := bs ++ [sumBytes bs]

/-- The 8 bytes of an event slot (11 R181). Bits 3 to 7 of byte 1 are stated nowhere and are sent as 0 (log 44). -/
def eventBytes (r : EventRecord) : List Byte :=
  withCheck (leBytes 1 r.kind.code ++
    leBytes 1 ((if r.source = .playback then 1 else 0) + 2 * r.stream.code + (if r.isRepeat then 4 else 0)) ++
    leBytes 1 r.part ++ leBytes 1 r.key ++ leBytes 1 r.value ++ leBytes 1 r.offset ++ leBytes 1 r.age)

/-- The six event slots of an upstream frame, the ones after the last record marked empty (05 R84, 11 R181). -/
def slotBytes (slots : List EventRecord) : List Byte :=
  let used := (slots.take 6).flatMap eventBytes
  used ++ List.replicate (48 - used.length) 0

/-- The 8 bytes of a take record (11 R181). -/
def takeBytes (r : TakeRecord) : List Byte :=
  withCheck (leBytes 2 r.delta ++ leBytes 1 r.kind.code ++ leBytes 1 r.part ++ leBytes 1 r.key ++ leBytes 1 r.value ++
    leBytes 1 r.sub)

/-! ## The status field of the upstream frame (10 R166, 11 R179) -/

/-- Status field: bits 0–2 rail state, 3–5 player state, 8 scan lock, 9 capture-recording, 10 notice-pending; the other
bits 0. -/
def statusField (rail : RailState) (player : PlayerState) (lock : Lock) (recording noticePending : Bool) : Nat :=
  rail.code + 8 * player.code + (if lock = .locked then 256 else 0) + (if recording then 512 else 0) +
    (if noticePending then 1024 else 0)

end Sys2Proof.Machine
end

