-- ==== Sys2Proof/Machine/Capture.lean ====
section
/-! DEFINITION. The Capture Recorder (07 section 7.3): starting, appending, the closing sequence, its observation of live
records and its work at a frame tick. -/

namespace Sys2Proof.Machine

/-- The most records a capture may hold while it is open: 90 of the 16,384 slots stay free for closing (07 R128). -/
def openLimit : Nat := 16294

/-- The capture header's record count. -/
def captureCount (s : State) : Nat := s.memory.capture.header.count

/-- The capture position, in frames (07 R124). -/
def capturePos (s : State) : Nat :=
  match s.recorder.base with
  | none => 0
  | some (.frames start) => (s.clock.frame - start).toNat
  | some (.player clock) => clock / 256

/-- A record put in the slot at the capture header's record count, which is raised by 1 (07 R125). -/
def appendTake (r : TakeRecord) (s : State) : State :=
  let a := s.memory.capture
  let b : Area := { slots := slotPut a.slots a.header.count r, header := { a.header with count := a.header.count + 1 } }
  { s with memory := s.memory.setCapture b }

/-- Records appended in order. -/
def appendAll : List TakeRecord → State → State
  | [], s => s
  | r :: rs, s => appendAll rs (appendTake r s)

/-- A SPACER (07 R126). -/
def spacerRecord : TakeRecord := { delta := 65535, kind := .spacer, part := 0, key := 0, value := 0, sub := 0 }

/-- A SPACER appended; it raises the last position by 65,535 (07 R126). -/
def appendSpacer (s : State) : State :=
  let t := appendTake spacerRecord s
  { t with recorder := { t.recorder with lastPos := t.recorder.lastPos + 65535 } }

/-- `n` SPACERs appended. -/
def appendSpacers : Nat → State → State
  | 0, s => s
  | n + 1, s => appendSpacers n (appendSpacer s)

/-- How many SPACERs a gap needs: one for as long as it exceeds 65,535 (07 R126). -/
def spacersFor (gap : Nat) : Nat := (gap - 1) / 65535

/-- The SPACERs needed to reach the capture position. -/
def spacersNeeded (s : State) : Nat := spacersFor (capturePos s - s.recorder.lastPos)

/-! ## Closing (07 R129) -/

/-- The delta given to the first of a list of records, 0 to the others. -/
def firstDelta (delta : Nat) : List TakeRecord → List TakeRecord
  | [] => []
  | r :: rs => { r with delta := delta } :: rs

/-- The closing records: a NOTE_OFF for each captured-sounding pair, a DAMPER 0 where one is due, an END (07 R129, steps 2
to 4). -/
def closingRecords (r : Recorder) : List TakeRecord :=
  r.sounding.map (fun p => { delta := 0, kind := .noteOff, part := p.2, key := p.1, value := 0, sub := 0 }) ++
  (if r.damperValue ≠ 0 ∧ r.pedals = true then
    [{ delta := 0, kind := .damper, part := r.damperPart, key := 0, value := 0, sub := 0 }] else []) ++
  [{ delta := 0, kind := .endMark, part := 0, key := 0, value := 0, sub := 0 }]

/-- The SPACERs of step 1 of the closing, appended where they leave the record count at 16,294 or less (07 R129). -/
def closingSpacers (s : State) : State :=
  if captureCount s + spacersNeeded s ≤ openLimit then appendSpacers (spacersNeeded s) s else s

/-- The position of the closing records: the capture position, or the last position when step 1 had no room (07 R129). -/
def closingPos (s : State) : Nat :=
  if captureCount s + spacersNeeded s ≤ openLimit then capturePos s else s.recorder.lastPos

/-- The closing sequence: the recording ends, the recorder is IDLE and its base absent (07 R129); a DAMPER 0 appended is the last
captured damper (07 R127). -/
def closeCapture (s : State) : State :=
  let t := closingSpacers s
  let u := appendAll (firstDelta (closingPos s - t.recorder.lastPos) (closingRecords s.recorder)) t
  { u with recorder := { u.recorder with
      state := .idle, base := none, sounding := [], lastPos := closingPos s
      damperValue := if s.recorder.pedals then 0 else s.recorder.damperValue } }

/-- A closing forced by the reserve, with its CAPTURE_FULL: record count, NOTE_OFFs appended, and the kind of the record
that could not be appended (07 R128). -/
def closeByReserve (kind : TakeKind) (s : State) : State :=
  let t := closeCapture s
  raiseNotice .captureFull (leBytes 2 (captureCount t) ++ leBytes 1 s.recorder.sounding.length ++ leBytes 1 kind.code) t

/-! ## Starting (07 R122) -/

/-- A recording starts: the CAPTURE area is emptied, its header takes the pending bar values, the set and the last captured
damper are cleared, and the base is PLAYER when the Player is RUNNING and FRAMES otherwise (07 R122, R124). -/
def startCapture (s : State) : State :=
  let a := s.memory.capture
  let bars := s.recorder.pendingBars.getD (a.header.barLen, a.header.beats)
  { s with
    memory := s.memory.setCapture { a with header := { count := 0, barLen := bars.1, beats := bars.2 } }
    recorder := { s.recorder with
      state := .recording, trigger := none, pendingBars := none
      base := some (if s.player.state = .running then .player s.player.pos else .frames s.clock.frame)
      lastPos := 0, sounding := [], damperValue := 0, damperPart := 0 } }

/-! ## Appending (07 R125 to R128) -/

/-- The take kind a live record is captured as; guides and misses are not captured. -/
def captureKind : EventKind → Option TakeKind
  | .noteOn => some .noteOn
  | .noteOff => some .noteOff
  | .damper => some .damper
  | .sostenuto => some .sostenuto
  | .soft => some .soft
  | .guideOn | .guideOff | .miss => none

/-- The part held for a key in the captured-sounding set (07 R127). -/
def heldPart (set : List (Nat × Nat)) (key : Nat) : Option Nat := (set.find? (fun p => decide (p.1 = key))).map (·.2)

/-- A (key, part) pair put into the set, ascending by key, replacing the key's pair (07 R127). -/
def putPair : List (Nat × Nat) → Nat → Nat → List (Nat × Nat)
  | [], k, p => [(k, p)]
  | (j, q) :: rest, k, p =>
    if k < j then (k, p) :: (j, q) :: rest else if k = j then (k, p) :: rest else (j, q) :: putPair rest k p

/-- The records an observed live record calls for, before any SPACERs, each with delta 0; none where it is passed over
(07 R125, R127). The inserted NOTE_OFF carries value 0 and a free sub-frame (log 27). -/
def captureRecords (ev : EventRecord) (s : State) : List TakeRecord :=
  let r := s.recorder
  let livePart := match r.partMode with | .split => ev.part | .fixed p => p
  let rec_ (kind : TakeKind) (part : Nat) : TakeRecord :=
    { delta := 0, kind := kind, part := part, key := ev.key, value := ev.value, sub := ev.offset }
  match ev.kind with
  | .noteOn =>
    match heldPart r.sounding ev.key with
    | some q =>
      if q = livePart then [rec_ .noteOn livePart]
      else [{ delta := 0, kind := .noteOff, part := q, key := ev.key, value := 0, sub := freeSub s },
            rec_ .noteOn livePart]
    | none => [rec_ .noteOn livePart]
  | .noteOff =>
    match heldPart r.sounding ev.key with
    | some q => [rec_ .noteOff (match r.partMode with | .split => q | .fixed p => p)]
    | none => []
  | .damper => if r.pedals then [rec_ .damper livePart] else []
  | .sostenuto => if r.pedals then [rec_ .sostenuto livePart] else []
  | .soft => if r.pedals then [rec_ .soft livePart] else []
  | .guideOn | .guideOff | .miss => []

/-- The recorder's marks after a live record has been appended: the captured-sounding set, the last captured damper, the
last position (07 R125, R127). -/
def markCaptured (ev : EventRecord) (part pos : Nat) (r : Recorder) : Recorder :=
  match ev.kind with
  | .noteOn => { r with sounding := putPair r.sounding ev.key part, lastPos := pos }
  | .noteOff => { r with sounding := r.sounding.filter (fun p => decide (p.1 ≠ ev.key)), lastPos := pos }
  | .damper => { r with damperValue := ev.value, damperPart := part, lastPos := pos }
  | _ => { r with lastPos := pos }

/-- An observed live record considered while RECORDING: appended with the SPACERs and the NOTE_OFF it needs, or, where that
would leave fewer than 90 slots free, the recording is closed (07 R125 to R128). -/
def captureConsider (ev : EventRecord) (s : State) : State :=
  match captureRecords ev s, captureKind ev.kind with
  | [], _ => s
  | _, none => s
  | rs, some kind =>
    if captureCount s + spacersNeeded s + rs.length ≤ openLimit then
      let pos := capturePos s
      let t := appendSpacers (spacersNeeded s) s
      let u := appendAll (firstDelta (pos - t.recorder.lastPos) rs) t
      { u with
        recorder := markCaptured ev ((rs.getLast?.map TakeRecord.part).getD 0) pos u.recorder
        free := if rs.length = 2 then u.free + 1 else u.free }
    else closeByReserve kind s

/-- The recorder's observation of an admitted live record: appended while RECORDING; while ARMED on the first key a NOTE_ON
starts the recording and is then appended; else nothing (07 R122, R123, R125). -/
def captureObserve (ev : EventRecord) (s : State) : State :=
  match s.recorder.state with
  | .recording => captureConsider ev s
  | .armed =>
    if s.recorder.trigger = some .firstKey ∧ ev.kind = .noteOn then captureConsider ev (startCapture s) else s
  | .idle => s

/-! ## Frame tick -/

/-- A recorder ARMED on the cue starts when the sampled cue line is active (07 R122). -/
def recorderCue (cue : Bool) (s : State) : State :=
  if cue = true ∧ s.recorder.state = .armed ∧ s.recorder.trigger = some .cue then startCapture s else s

/-- Up to `n` SPACERs of a frame tick, each subject to the closing reserve (07 R126, R128). -/
def tickSpacers : Nat → State → State
  | 0, s => s
  | n + 1, s =>
    if captureCount s + 1 ≤ openLimit then tickSpacers n (appendSpacer s) else closeByReserve .spacer s

/-- While RECORDING, the SPACERs that keep the gap at 65,535 or less (07 R126). -/
def recorderSpacers (s : State) : State :=
  if s.recorder.state = .recording then tickSpacers (spacersNeeded s) s else s

/-- The advance the Player hands to the recorder moves the capture clock (07 R124). -/
def recorderAdvance (amount : Nat) (s : State) : State :=
  match s.recorder.state, s.recorder.base with
  | .recording, some (.player clock) =>
    { s with recorder := { s.recorder with base := some (.player (clock + amount)) } }
  | _, _ => s

end Sys2Proof.Machine
end

