-- ==== Sys2Proof/Machine/Live.lean ====
section
/-! DEFINITION. Admission of live records (05 R81, R87 to R89), with the follow-mode comparison of the Player (08 R147) that is
part of it, and the drain (05 R84). -/

namespace Sys2Proof.Machine

/-! ## The Player's sets (08 R136) -/

/-- The stream held for (part, key), where the set holds the pair. -/
def pairStream (set : List PlayPair) (part key : Nat) : Option Stream :=
  (set.find? (fun p => decide (p.part = part) && decide (p.key = key))).map PlayPair.stream

/-- The set without the pair (part, key). -/
def dropPair (set : List PlayPair) (part key : Nat) : List PlayPair :=
  set.filter (fun p => !(decide (p.part = part) && decide (p.key = key)))

/-- The set with the pair put in, ascending part then key, a pair of the same (part, key) replaced (08 R131, R136). -/
def insertPair (q : PlayPair) : List PlayPair → List PlayPair
  | [] => [q]
  | p :: rest =>
    if q.part < p.part ∨ (q.part = p.part ∧ q.key < p.key) then q :: p :: rest
    else if q.part = p.part ∧ q.key = p.key then q :: rest
    else p :: insertPair q rest

/-- A GUIDE_OFF of a lit pair, offset 0 (08 R137, R141, R147). -/
def guideOffOf (p : PlayPair) : EventRecord :=
  { kind := .guideOff, source := .playback, stream := p.stream, part := p.part, key := p.key, value := 0,
    isRepeat := false, offset := 0, age := 0 }

/-! ## Follow mode (08 R147) -/

/-- The lowest part under which the expected set holds `key`. -/
def matchPart (expected : List (Nat × Nat)) (key : Nat) : Option Nat :=
  (expected.filter (fun e => decide (e.2 = key))).foldl
    (fun best e => match best with | none => some e.1 | some b => some (min b e.1)) none

/-- A match: the entry leaves the expected set, a lit guide is turned off by a GUIDE_OFF on its stream, and a set that
becomes empty returns the Player to RUNNING (08 R147). -/
def followMatch (part key : Nat) (s : State) : State :=
  let left := s.player.expected.filter (fun e => decide (e ≠ (part, key)))
  let t := { s with player := { s.player with
    expected := left, state := if left = [] then .running else s.player.state } }
  match pairStream t.player.lit part key with
  | none => t
  | some st =>
    let r := presentPlayback (guideOffOf { part := part, key := key, stream := st }) t
    if r.2 then { r.1 with player := { r.1.player with lit := dropPair r.1.player.lit part key } } else r.1

/-- A miss: the mistake counter, and a MISS record with the fields of R78 (08 R147). -/
def followMiss (ev : EventRecord) (s : State) : State :=
  let t := { s with player := { s.player with mistakes := satInc 65535 s.player.mistakes } }
  (presentPlayback { ev with kind := .miss, source := .playback, stream := .a, isRepeat := false, age := 0 } t).1

/-- The Player's observation of an admitted live record: a NOTE_ON while WAITING is compared with the expected set
(08 R147). -/
def followObserve (ev : EventRecord) (s : State) : State :=
  if s.player.state = .waiting ∧ ev.kind = .noteOn then
    match matchPart s.player.expected ev.key with
    | some p => followMatch p ev.key s
    | none => followMiss ev s
  else s

/-! ## Live records -/

/-- A live record observed: by the Capture Recorder, then by the Player (05 R87). R87 gives the two no order; this one is the
model's choice, and so is that a FIRST_KEY start by the NOTE_ON that also empties a WAITING Player's expected set finds the Player
still WAITING and takes base FRAMES (07 R124, 08 R147; log 5). -/
def observeLive (ev : EventRecord) (s : State) : State := followObserve ev (captureObserve ev s)

/-- QUEUE_OVERRUN: key and velocity refused, live drop counter after its increment, playback count (05 R89). -/
def raiseOverrun (ev : EventRecord) (s : State) : State :=
  let t := raiseNotice .queueOverrun
    (leBytes 1 ev.key ++ leBytes 1 ev.value ++ leBytes 2 s.queue.drops ++ leBytes 1 s.queue.playbackCount) s
  { t with queue := { t.queue with overrun := .sent } }

/-- A live record refused: counted; a NOTE_ON also counts as a drop and raises QUEUE_OVERRUN where the flag is ARMED
(05 R81, R89). -/
def refuseLive (ev : EventRecord) (s : State) : State :=
  let t := { s with queue := { s.queue with refusals := satInc 65535 s.queue.refusals } }
  if ev.kind = .noteOn then
    let u := { t with queue := { t.queue with drops := satInc 65535 t.queue.drops } }
    if u.queue.overrun = .armed then raiseOverrun ev u else u
  else t

/-- A live record presented: admitted at an occupancy of 95 or less and observed as part of its admission, else refused
(05 R81, R87, R88). -/
def presentLive (ev : EventRecord) (s : State) : State × Bool :=
  if s.queue.records.length ≤ 95 then (observeLive ev (enqueue ev s), true) else (refuseLive ev s, false)

/-! ## The drain (05 R84, R89) -/

/-- Up to six records leave for the event slots, the rest age by 1, and a drain that leaves the list empty returns the
overrun flag to ARMED (05 R84, R89). -/
def drainQueue (q : EventQueue) : EventQueue :=
  { q with
    slots := q.records.take 6
    records := (q.records.drop 6).map (fun r => { r with age := satInc 255 r.age })
    overrun := if q.records.drop 6 = [] then .armed else q.overrun }

end Sys2Proof.Machine
end

