-- ==== Sys2Proof/Machine/KeyTracking.lean ====
section
/-! DEFINITION. The Key Tracker (01, 02): crossings, the motion state machine, strike velocity, note attempts; and what a taken
sample does in the Calibration Unit (04 R62 to R66, R68). -/

namespace Sys2Proof.Machine

/-! ## Crossings (01 R11) -/

/-- A sample pair: stored depth and frame, new depth and frame. -/
structure SamplePair where
  dp : Nat
  dc : Nat
  np : FrameNo
  nc : FrameNo
  deriving DecidableEq, Repr

/-- The line is crossed downward (01 R11). -/
def SamplePair.crossDown (p : SamplePair) (line : Nat) : Bool := decide (p.dp < line) && decide (line ≤ p.dc)

/-- The line is crossed upward (01 R11). -/
def SamplePair.crossUp (p : SamplePair) (line : Nat) : Bool := decide (line ≤ p.dp) && decide (p.dc < line)

/-- The crossing time of a downward crossing: 16 np + (16 g (L − dp)) ÷ (dc − dp), modulo 2^36 (01 R11). -/
def SamplePair.crossTime (p : SamplePair) (line : Nat) : TickTime :=
  BitVec.ofNat 36 (16 * p.np.toNat + (16 * (p.nc - p.np).toNat * (line - p.dp)) / (p.dc - p.dp))

/-! ## Velocity (02) -/

/-- The travel code of an interval within the travel limit (02 R30). -/
def travelCode (d : Nat) : Nat :=
  if d ≤ 512 then (d - 1) / 4
  else if d ≤ 2560 then 128 + (d - 513) / 32
  else if d ≤ 10752 then 192 + (d - 2561) / 256
  else 224 + (d - 10753) / 1024

/-- Entry `c` of curve `n`, `c` 0..255 and `n` 0..3 (02 R31). -/
def curveEntry (curves : Vector Curve 4) (n c : Nat) : Nat := (curves.toList.getD n factoryCurve).toList.getD c 1

/-- The velocity: curve value plus trim, limited to 1..127 (02 R36). -/
def velocityOf (curves : Vector Curve 4) (cal : KeyCal) (interval : Nat) : Nat :=
  (clampInt 1 127 ((curveEntry curves cal.curve (travelCode interval) : Int) + cal.trim)).toNat

/-- The travel interval of a fresh strike, at least 1 (02 R27). -/
def freshInterval (strike mark : TickTime) : Nat := max 1 (strike - mark).toNat

/-- The normalised interval of a restrike, at least 1 (02 R28). -/
def restrikeInterval (cal : KeyCal) (strike mark : TickTime) : Nat :=
  max 1 ((strike - mark).toNat * (cal.tStrike - cal.tStart) / (cal.tStrike - cal.tRearm))

/-! ## Note attempts (01 R19, R20) -/

/-- The live NOTE_ON of key `k` (01 R19, R24; 05 R78). -/
def noteOnOf (s : State) (k : KeyIdx) (velocity offset : Nat) (isRepeat : Bool) : EventRecord :=
  { kind := .noteOn, source := .live, stream := .a, part := if k.val < s.tracker.track.splitKey then 0 else 1,
    key := k.val, value := velocity, isRepeat := isRepeat, offset := offset, age := 0 }

/-- The live NOTE_OFF of key `k` (01 R20; 05 R78). -/
def noteOffOf (s : State) (k : KeyIdx) : EventRecord :=
  { kind := .noteOff, source := .live, stream := .a, part := (s.key k).part, key := k.val, value := 0,
    isRepeat := false, offset := 0, age := 0 }

/-- The key record after a NOTE_ON attempt (01 R19). -/
def afterNoteOn (r : KeyRecord) (ev : EventRecord) (admitted : Bool) : KeyRecord :=
  if admitted then { r with note := .active, lastVelocity := some ev.value, part := ev.part }
  else match r.note with
    | .idle | .lost => { r with note := .lost }
    | .active | .held | .owed => { r with note := .active }

/-- A NOTE_ON attempt (01 R19). -/
def attemptNoteOn (k : KeyIdx) (velocity offset : Nat) (isRepeat : Bool) (s : State) : State :=
  let ev := noteOnOf s k velocity offset isRepeat
  let t := presentLive ev s
  t.1.setKey k (afterNoteOn (t.1.key k) ev t.2)

/-- A NOTE_OFF attempt: IDLE when admitted, OWED when refused (01 R20). -/
def attemptNoteOff (k : KeyIdx) (s : State) : State :=
  let t := presentLive (noteOffOf s k) s
  t.1.setKey k { t.1.key k with note := if t.2 then .idle else .owed }

/-- A release request: a NOTE_OFF attempt where the key's status is HELD, else nothing (01 R21). -/
def releaseRequest (k : KeyIdx) (s : State) : State := if (s.key k).note = .held then attemptNoteOff k s else s

/-! ## The motion state machine (01 R14 to R18) -/

/-- Entry into REST: the note status is settled by the damper and the sostenuto (01 R18). -/
def enterRest (k : KeyIdx) (s : State) : State :=
  let t := s.setKey k { s.key k with motion := .rest, mark := none }
  let heldUp := decide (t.pedalUnit.damper = .engaged) || (t.key k).member
  match (t.key k).note with
  | .active => if heldUp then t.setKey k { t.key k with note := .held } else attemptNoteOff k t
  | .held => if heldUp then t else attemptNoteOff k t
  | .lost => t.setKey k { t.key k with note := .idle }
  | .idle | .owed => t

/-- A strike evaluated from TRAVEL (01 R15; 02 R27, R29, R37). -/
def strike (k : KeyIdx) (p : SamplePair) (s : State) : State :=
  let r := s.key k
  let at_ := p.crossTime r.cal.tStrike
  let interval := freshInterval at_ (r.mark.getD 0)
  if interval ≤ s.tracker.track.travelLimit then
    attemptNoteOn k (velocityOf s.tracker.curves r.cal interval) (at_.toNat % 16)
      (decide (r.note = .held) || decide (r.note = .owed))
      (s.setKey k { r with motion := .sounding, mark := none, flight := s.tracker.track.flightFrames })
  else s.setKey k { r with motion := .silent, mark := none, flight := s.tracker.track.flightFrames }

/-- A restrike evaluated from RETRAVEL (01 R17; 02 R28, R29, R37). -/
def restrike (k : KeyIdx) (p : SamplePair) (s : State) : State :=
  let r := s.key k
  let at_ := p.crossTime r.cal.tStrike
  let interval := restrikeInterval r.cal at_ (r.mark.getD 0)
  let t := s.setKey k { r with motion := .sounding, mark := none, flight := s.tracker.track.flightFrames }
  if interval ≤ s.tracker.track.travelLimit then
    attemptNoteOn k (velocityOf s.tracker.curves r.cal interval) (at_.toNat % 16) true t
  else t

/-- The transition of a key's motion state on a good sample (01 R12, R14, R16, R17, R18). -/
def motionStep (k : KeyIdx) (p : SamplePair) (s : State) : State :=
  let r := s.key k
  let c := r.cal
  match r.motion with
  | .rest =>
    if p.crossDown c.tStart then
      let t := s.setKey k { r with motion := .travel, mark := some (p.crossTime c.tStart) }
      if p.crossDown c.tStrike then strike k p t else t
    else s
  | .travel =>
    if p.crossDown c.tStrike then strike k p s
    else if p.dc < c.tOff then enterRest k s
    else s
  | .sounding =>
    if p.dc < c.tRearm then (if p.dc < c.tOff then enterRest k s else s.setKey k { r with motion := .rearmed }) else s
  | .rearmed =>
    if p.crossDown c.tRearm then
      let t := s.setKey k { r with motion := .retravel, mark := some (p.crossTime c.tRearm) }
      if p.crossDown c.tStrike then restrike k p t else t
    else if p.dc < c.tOff then enterRest k s
    else s
  | .retravel =>
    if p.crossDown c.tStrike then restrike k p s
    else if p.dc < c.tOff then enterRest k s
    else if p.crossUp c.tRearm then s.setKey k { r with motion := .rearmed, mark := none }
    else s
  | .silent => if p.dc < c.tOff then enterRest k s else s
  | .fault => s

/-- The first sample of a key awaiting it: REST below T_start, SILENT otherwise, and nothing else (01 R13). -/
def firstSample (k : KeyIdx) (dc : Nat) (s : State) : State :=
  let r := s.key k
  s.setKey k { r with motion := if dc < r.cal.tStart then .rest else .silent, mark := none }

/-! ## Auto tracking and the calibration job on a good sample (04 R62 to R66) -/

/-- The rest after a rest step toward `raw` (04 R63). -/
def restAfterStep (c : KeyCal) (raw : Nat) : Nat :=
  if raw = c.rest then c.rest
  else
    let diff : Int := (raw : Int) - c.rest
    let q := diff.tdiv 16
    let step : Int := if q = 0 then (if 0 < diff then 1 else -1) else q
    let cand := (clampInt c.restLo c.restHi ((c.rest : Int) + step)).toNat
    if distance c.bottom cand < 128 then c.rest else cand

/-- Whether a sample of this key qualifies for auto rest tracking (04 R62). -/
def qualifies (r : KeyRecord) : Bool :=
  decide (r.motion = .rest) && decide (r.note = .idle) &&
    (match r.job with | .counting _ _ => false | _ => true)

/-- The stability state and rest of an AUTO key after a good sample (04 R62, R63). -/
def trackRest (raw : Nat) (r : KeyRecord) : KeyRecord :=
  if qualifies r then
    match r.stabRef with
    | none => { r with stabRef := some raw, stabCount := 1 }
    | some ref =>
      if distance raw ref ≤ 8 then
        if 800 ≤ r.stabCount + 1 then
          { r with cal := { r.cal with rest := restAfterStep r.cal raw }, stabRef := none, stabCount := 0 }
        else { r with stabCount := r.stabCount + 1 }
      else { r with stabRef := some raw, stabCount := 1 }
  else { r with stabRef := none, stabCount := 0 }

/-- The bottom of an AUTO key after a good sample in SOUNDING: moved outward by a sixteenth of a difference above 16
(04 R64). -/
def trackBottom (raw : Nat) (r : KeyRecord) : KeyRecord :=
  let c := r.cal
  if r.motion = .sounding then
    if c.rest < c.bottom then
      if c.bottom + 16 < raw then { r with cal := { c with bottom := c.bottom + (raw - c.bottom) / 16 } } else r
    else if raw + 16 < c.bottom then { r with cal := { c with bottom := c.bottom - (c.bottom - raw) / 16 } } else r
  else r

/-- Auto tracking of a good sample (04 R62 to R64). -/
def autoTrack (raw : Nat) (r : KeyRecord) : KeyRecord :=
  match r.cal.mode with
  | .manual => r
  | .auto => trackBottom raw (trackRest raw r)

/-- The calibration job's update of a counting key on a good sample (04 R66). -/
def jobSample (raw : Nat) (r : KeyRecord) : KeyRecord :=
  match r.job with
  | .counting sum count =>
    if r.motion = .rest ∧ r.note = .idle then
      if 64 ≤ count + 1 then
        let avg := (sum + raw) / 64
        if 128 ≤ distance r.cal.bottom avg then
          { r with cal := { r.cal with rest := avg }, job := .done, stabRef := none, stabCount := 0 }
        else { r with job := .dropped, stabRef := none, stabCount := 0 }
      else { r with job := .counting (sum + raw) (count + 1) }
    else { r with job := .counting 0 0 }
  | _ => r

/-! ## Taking a key's sample (01 R8, R9) -/

/-- The end of a good sample's handling: depth, last sample frame and fault run (01 R8), then auto tracking and the
calibration job (04 R62, R66; log 16). -/
def settleSample (k : KeyIdx) (raw dc : Nat) (s : State) : State :=
  let r := { s.key k with depth := dc, lastFrame := some s.clock.frame, faultRun := 0 }
  s.setKey k (jobSample raw (autoTrack raw r))

/-- A good sample (01 R8): the first sample of an awaiting key, or crossings and the motion transition. -/
def goodSample (k : KeyIdx) (raw : Nat) (s : State) : State :=
  let r := s.key k
  let dc := normalise r.cal.rest r.cal.bottom raw
  match r.lastFrame with
  | none => settleSample k raw dc (firstSample k dc s)
  | some np => settleSample k raw dc (motionStep k { dp := r.depth, dc := dc, np := np, nc := s.clock.frame } s)

/-- The number of FAULT keys that are not in the Fault List (04 R69). -/
def unlistedFaults (s : State) : Nat :=
  (allKeys.filter (fun k => decide ((s.key k).motion = .fault) && !(s.cal.faultList.contains k))).length

/-- The Fault List after a key has entered FAULT: appended where fewer than 8 are held, else the overflow flag (04 R69). -/
def listFault (k : KeyIdx) (s : State) : State :=
  if s.cal.faultList.length < 8 then { s with cal := { s.cal with faultList := s.cal.faultList ++ [k] } }
  else { s with cal := { s.cal with overflow := true } }

/-- Fault entry's settling of the note status: a NOTE_OFF for ON or HELD, LOST becomes IDLE, OWED stays (01 R21). -/
def faultSettleNote (k : KeyIdx) (s : State) : State :=
  match (s.key k).note with
  | .active | .held => attemptNoteOff k s
  | .lost => s.setKey k { s.key k with note := .idle }
  | .idle | .owed => s

/-- A key placed in FAULT (04 R68; 01 R21; 03 R51): motion, note status, timer and mark, sostenuto mark, job, Fault List,
notice. -/
def enterFault (k : KeyIdx) (raw : Nat) (s : State) : State :=
  let s1 := s.setKey k { s.key k with motion := .fault }
  let s2 := faultSettleNote k s1
  let r := s2.key k
  let s3 := s2.setKey k { r with
    flight := 0, mark := none, member := false, stabRef := none, stabCount := 0
    job := match r.job with | .counting _ _ => .dropped | j => j }
  let listed := decide (s3.cal.faultList.length < 8)
  let s4 := listFault k s3
  raiseNotice .keyFault
    (leBytes 1 k.val ++ leBytes 2 raw ++ boolByte listed ++ leBytes 1 s4.cal.faultList.length) s4

/-- The record of a key after a fault sample: the fault run counts, an AUTO key's stability state and a counting key's sum
and count go back (01 R9; 04 R62, R66). -/
def faultSampleRecord (r : KeyRecord) : KeyRecord :=
  let r1 := { r with faultRun := satInc 64 r.faultRun }
  let r2 := match r1.cal.mode with | .auto => { r1 with stabRef := none, stabCount := 0 } | .manual => r1
  match r2.job with | .counting _ _ => { r2 with job := .counting 0 0 } | _ => r2

/-- A fault sample; at a fault run of 64 the key enters FAULT (01 R9, 04 R68). -/
def faultSample (k : KeyIdx) (raw : Nat) (s : State) : State :=
  let t := s.setKey k (faultSampleRecord (s.key k))
  if (t.key k).faultRun = 64 then enterFault k raw t else t

/-- A key's sample taken (01 R8). -/
def keySample (k : KeyIdx) (raw : Nat) (s : State) : State :=
  let r := s.key k
  if !r.cal.enabled || decide (r.motion = .fault) then s
  else if isFaultRaw raw then faultSample k raw s
  else goodSample k raw s

/-- The 88 key samples of a taken frame in ascending key order (01 R5). `between n` is what happens elsewhere right before
the sample of key `n`, and after the last sample for 88 (02 R33, R39). -/
def keySamples (between : Nat → State → State) (words : List ScanWord) (s : State) : State :=
  between 88 (allKeys.foldl (fun t k => keySample k (sampleAt words k.val) (between k.val t)) s)

/-! ## Frame tick -/

/-- Every flight timer above 0 is decremented, and the flight set and deep count recomputed (01 R22, R23). -/
def flightTick (s : State) : State :=
  recomputeSets { s with tracker := { s.tracker with
    keys := mapVec (fun r => { r with flight := r.flight - 1 }) s.tracker.keys } }

/-- The NOTE_OFF of one key retried where its status is OWED (01 R20). -/
def retryOwed (k : KeyIdx) (s : State) : State := if (s.key k).note = .owed then attemptNoteOff k s else s

/-- The NOTE_OFF of every OWED key retried, in ascending key order (01 R20). -/
def retryAllOwed (s : State) : State := allKeys.foldl (fun t k => retryOwed k t) s

end Sys2Proof.Machine
end

