-- ==== Sys2Proof/Machine/Pedals.lean ====
section
/-! DEFINITION. The Pedal Unit (03): samples, pedal events, engagement, the sostenuto set and the releases. -/

namespace Sys2Proof.Machine

/-! ## Samples and events -/

/-- The value of a normalised pedal depth `p` by the map (03 R45). -/
def pedalValue (map : Vector Nat 17) (p : Nat) : Nat :=
  let i := p / 64
  let y0 : Int := (map.toList.getD i 0 : Nat)
  let y1 : Int := (map.toList.getD (i + 1) 0 : Nat)
  (y0 + ((y1 - y0) * ((p : Int) - 64 * i)).tdiv 64).toNat

/-- A pedal sample taken: a fault sample keeps everything, a good one gives the value (03 R44, R45). -/
def pedalSample (raw : Nat) (r : PedalRecord) : PedalRecord :=
  if isFaultRaw raw then r
  else { r with value := pedalValue r.cal.map (normalise r.cal.rest r.cal.bottom raw), awaiting := false }

/-- A pedal is due (03 R46). -/
def pedalDue (r : PedalRecord) : Bool :=
  !r.awaiting &&
    (match r.lastSent with
     | none => decide (r.value ≠ 0)
     | some v => decide (r.value ≠ v) &&
        (decide (r.cal.deadband ≤ distance r.value v) || decide (r.value = 0) || decide (r.value = 127)))

/-- The kind of a pedal's events (03 R48). -/
def pedalKind (p : PedalIdx) : EventKind :=
  if p.val = 0 then .damper else if p.val = 1 then .sostenuto else .soft

/-- The live record of a pedal event (03 R48; 05 R78). -/
def pedalEventOf (p : PedalIdx) (r : PedalRecord) : EventRecord :=
  { kind := pedalKind p, source := .live, stream := .a, part := 0, key := p.val, value := r.value,
    isRepeat := false, offset := 0, age := 0 }

/-- A pedal event attempt (03 R48). -/
def attemptPedal (p : PedalIdx) (s : State) : State :=
  let t := presentLive (pedalEventOf p (s.pedal p)) s
  if t.2 then t.1.setPedal p { t.1.pedal p with lastSent := some (s.pedal p).value, interval := 4 } else t.1

/-- A pedal considered for an event (03 R46, R47): attempted where due with its interval timer at 0; an absent last sent
value becomes 0 where the value is 0 and the pedal is not awaiting its first sample (log 15). -/
def considerPedal (p : PedalIdx) (s : State) : State :=
  let r := s.pedal p
  if pedalDue r then (if r.interval = 0 then attemptPedal p s else s)
  else if r.awaiting = false ∧ r.lastSent = none ∧ r.value = 0 then s.setPedal p { r with lastSent := some 0 }
  else s

/-! ## Engagement (03 R49) -/

/-- The engage state for a value: ENGAGED at 64 or more, RELEASED below 48 (03 R49). -/
def engageOf (e : Engage) (value : Nat) : Engage :=
  match e with
  | .released => if 64 ≤ value then .engaged else .released
  | .engaged => if value < 48 then .released else .engaged

/-- The sostenuto set formed of the keys whose status is ON or HELD (03 R50). -/
def formSostenuto (s : State) : State :=
  let mark := fun r : KeyRecord => { r with member := decide (r.note = .active) || decide (r.note = .held) }
  { s with tracker := { s.tracker with keys := mapVec mark s.tracker.keys } }

/-- The sostenuto set emptied and every member mark cleared (03 R53). -/
def clearSostenuto (s : State) : State :=
  { s with tracker := { s.tracker with keys := mapVec (fun r => { r with member := false }) s.tracker.keys } }

/-- Keys named to the Key Tracker, each by a release request in turn (03 R52, 01 R21). -/
def releaseKeys (ks : List KeyIdx) (s : State) : State := ks.foldl (fun t k => releaseRequest k t) s

/-- The keys a release may name: status HELD at REST, members or not (03 R52, R53). -/
def heldAtRest (members : Bool) (s : State) : List KeyIdx :=
  allKeys.filter (fun k => decide ((s.key k).note = .held) && decide ((s.key k).motion = .rest) &&
    ((s.key k).member == members))

/-- The damper release: every HELD key at REST that is no member (03 R52). -/
def damperRelease (s : State) : State := releaseKeys (heldAtRest false s) s

/-- The sostenuto release: with the damper RELEASED every HELD member at REST is named; in either case the set is emptied
(03 R53). -/
def sostenutoRelease (s : State) : State :=
  clearSostenuto (if s.pedalUnit.damper = .released then releaseKeys (heldAtRest true s) s else s)

/-- Step 2 of a taken frame: the sostenuto engage state, and the set formed where it has become ENGAGED (03 R43, R50). -/
def updateSostenuto (s : State) : State :=
  let e := engageOf s.pedalUnit.sostenuto (s.pedal 1).value
  let t := { s with pedalUnit := { s.pedalUnit with sostenuto := e } }
  if s.pedalUnit.sostenuto = .released ∧ e = .engaged then formSostenuto t else t

/-- Step 3 of a taken frame: the damper engage state, and the damper release where it has become RELEASED (03 R43, R52). -/
def updateDamper (s : State) : State :=
  let e := engageOf s.pedalUnit.damper (s.pedal 0).value
  let t := { s with pedalUnit := { s.pedalUnit with damper := e } }
  if s.pedalUnit.damper = .engaged ∧ e = .released then damperRelease t else t

/-- Step 1 of a taken frame for one pedal: its sample, then its consideration (03 R43). -/
def takePedal (raw : Nat) (p : PedalIdx) (s : State) : State :=
  considerPedal p (s.setPedal p (pedalSample raw (s.pedal p)))

/-- The pedal samples of a taken frame, steps 1 to 4 (03 R43). -/
def pedalSamples (words : List ScanWord) (s : State) : State :=
  let s1 := takePedal (sampleAt words 90) 2 (takePedal (sampleAt words 89) 1 (takePedal (sampleAt words 88) 0 s))
  let s2 := updateSostenuto s1
  let s3 := updateDamper s2
  if s1.pedalUnit.sostenuto = .engaged ∧ s2.pedalUnit.sostenuto = .released then sostenutoRelease s3 else s3

/-! ## Frame tick (03 R47) -/

/-- Every interval timer above 0 is decremented (03 R47). -/
def pedalTimers (s : State) : State :=
  { s with pedalUnit := { s.pedalUnit with
    pedals := mapVec (fun r => { r with interval := r.interval - 1 }) s.pedalUnit.pedals } }

end Sys2Proof.Machine
end

