-- ==== Sys2Proof/Machine/Mixer.lean ====
section
/-! DEFINITION. The Mixer (09): its steps at a frame tick, the triggering of balance changes, the click generator (08 R150) and
the sample arithmetic. -/

namespace Sys2Proof.Machine

/-! ## Balance -/

/-- A pending balance change triggered: a running fade stops, the pending change becomes absent, and the balance becomes the
target at once for 0 fade frames or a fade begins (09 R157). -/
def triggerBalance (m : Mixer) : Mixer :=
  match m.pendingBal with
  | none => m
  | some p =>
    if p.frames = 0 then { m with pendingBal := none, bal := p.target, fade := none }
    else { m with pendingBal := none, fade := some { target := p.target, remaining := p.frames } }

/-- Whether `cause` triggers a pending change whose trigger is `t`, for the player state read (09 R157). -/
def balanceTriggered (cause : BalanceCause) (t : BalTrigger) (player : PlayerState) : Bool :=
  match cause, t with
  | .step3, .now => true
  | .step3, .atBar | .step3, .atSection => decide (player = .stopped)
  | .barCrossing, .atBar => true
  | .barCrossing, _ => false
  | .endOfPass, .atSection => true
  | .endOfPass, _ => false

/-- Whether a balance change is pending that `cause` triggers (09 R157). -/
def balanceDue (cause : BalanceCause) (s : State) : Bool :=
  match s.mixer.pendingBal with
  | none => false
  | some p => balanceTriggered cause p.trigger s.player.state

/-- A cause handed to the Mixer: it triggers the pending change it is due for (09 R157). -/
def handCause (cause : BalanceCause) (s : State) : State :=
  if balanceDue cause s then { s with mixer := triggerBalance s.mixer } else s

/-- One fade step: the balance moves by (target − bal) ÷ r, truncated toward zero; r is decremented and the fade is absent
at 0 (09 R158). -/
def fadeStep (m : Mixer) : Mixer :=
  match m.fade with
  | none => m
  | some f =>
    { m with
      bal := ((m.bal : Int) + ((f.target : Int) - m.bal).tdiv f.remaining).toNat
      fade := if f.remaining ≤ 1 then none else some { f with remaining := f.remaining - 1 } }

/-! ## The steps of a frame tick (09 R153) -/

/-- Step 1: the tone input is the audio accepted in the frame just ended, or zeros when none was or the link is down
(09 R152). The held audio is taken. -/
def mixInput (s : State) : State :=
  { s with
    mixer := { s.mixer with tone :=
      match s.msg.link, s.msg.audio with
      | .up, some a => a
      | _, _ => silentTone }
    msg := { s.msg with audio := none } }

/-- Step 2: a pending mode becomes the mix mode (09 R154). -/
def mixApplyMode (m : Mixer) : Mixer :=
  match m.pendingMode with
  | none => m
  | some p => { m with mode := p, pendingMode := none }

/-- The live gate gain's target (09 R155). -/
def gateTarget : Gate → Nat | .opened => 32768 | .closed => 0

/-- Step 5: the gate gain moves toward its target by at most 512 (09 R155). -/
def gateStep (m : Mixer) : Mixer := { m with gateGain := slew 512 (gateTarget m.gate) m.gateGain }

/-- The gain a table gives for an index 0..63. -/
def tableGain (t : GainTable) (i : Nat) : Nat := t.toList.getD i 0

/-- Step 6: the volume targets are formed and each volume gain moves by at most 512 (09 R159). -/
def volumeStep (m : Mixer) : Mixer :=
  { m with
    targetL := tableGain m.tableL m.index
    targetR := tableGain m.tableR m.index
    gainL := slew 512 (tableGain m.tableL m.index) m.gainL
    gainR := slew 512 (tableGain m.tableR m.index) m.gainR }

/-- The stream weights wA and wB of a mode (09 R154). -/
def streamWeights (mode : MixMode) (bal : Nat) : Nat × Nat :=
  match mode with
  | .blend => (bal, 32768 - bal)
  | .liveOnly => (32768, 0)
  | .takeOnly => (0, 32768)

/-- Step 7: the effective weights wA′ = (wA × gG + 16384) >> 15 and wB (09 R154). -/
def mixWeights (m : Mixer) : Mixer :=
  { m with
    weightA := ((streamWeights m.mode m.bal).1 * m.gateGain + 16384) / 32768
    weightB := (streamWeights m.mode m.bal).2 }

/-! ## Click generator (08 R150) -/

/-- A beat crossing handed to the click generator: with the metronome on it starts a click, of amplitude 2 × level for
beat 1 and the level for other beats. -/
def startClick (beat : Nat) (s : State) : State :=
  if s.player.metronome then
    let amp := if beat = 1 then 2 * s.player.clickLevel else s.player.clickLevel
    let c : Click := { beatOne := decide (beat = 1), amplitude := amp, next := 0, cut := false }
    { s with mixer := { s.mixer with click := some c } }
  else s

/-- Sample `n` of a click: +A where n ÷ h is even and −A where it is odd, h being 6 for beat 1 and 12 otherwise. -/
def clickSample (c : Click) (n : Nat) : Int :=
  if (n / (if c.beatOne then 6 else 12)) % 2 = 0 then (c.amplitude : Int) else -(c.amplitude : Int)

/-- A click has come to its end: its 96 samples have been formed, or METRONOME has cut it in the frame before (08 R150). -/
def clickOver (c : Click) : Bool := decide (96 ≤ c.next) || c.cut

/-- The click sample of period `p` of the frame: 0 outside a click. -/
def clickAt (click : Option Click) (p : Nat) : Int :=
  match click with
  | none => 0
  | some c => if !clickOver c && decide (c.next + p < 96) then clickSample c (c.next + p) else 0

/-- The click after the six periods of a frame have been formed: one that came to its end with the frame before is gone; any
other is under way through this frame, its sixteenth included. -/
def clickAfter (click : Option Click) : Option Click :=
  match click with
  | none => none
  | some c => if clickOver c then none else some { c with next := c.next + 6 }

/-! ## Headphone samples (09 R163, R164) -/

/-- One headphone sample before limiting: the weighted sum, the click, the volume (09 R163). -/
def mixSample (a b : Int) (wA wB gain : Nat) (click : Int) : Int :=
  applyGain ((a * wA + b * wB + 16384) / 32768 + click) gain

/-- A result limited to 24 bits (09 R164). -/
def limit24 (h : Int) : Int := clampInt (-8388608) 8388607 h

/-- Whether a result is limited, and so counted (09 R164). -/
def saturates (h : Int) : Bool := decide (limit24 h ≠ h)

/-- The unlimited results of the frame, left and right of each period (09 R163). -/
def frameResults (m : Mixer) : List (Int × Int) :=
  (List.range 6).map (fun p =>
    let t := m.tone.getD p { al := 0, ar := 0, bl := 0, br := 0 }
    (mixSample t.al t.bl m.weightA m.weightB m.gainL (clickAt m.click p),
     mixSample t.ar t.br m.weightA m.weightB m.gainR (clickAt m.click p)))

/-- How many of the frame's samples are limited. -/
def frameSaturations (rs : List (Int × Int)) : Nat :=
  (rs.filter (fun r => saturates r.1)).length + (rs.filter (fun r => saturates r.2)).length

/-- The six stereo samples of the frame are formed, limited and sent; each limited sample is counted, and the click moves
on by six samples (09 R163, R164; 08 R150). -/
def formSamples (m : Mixer) : Mixer :=
  { m with
    headphone := (frameResults m).map (fun r => (limit24 r.1, limit24 r.2))
    saturation := min 65535 (m.saturation + frameSaturations (frameResults m))
    click := clickAfter m.click }

end Sys2Proof.Machine
end

