-- ==== Sys2Proof/Machine/KeyMessages.lean ====
section
/-! DEFINITION. Messages of the Key Tracker, the Pedal Unit and the Calibration Unit's key calibration: KEY_CAL_WRITE,
KEY_CAL_READ (04), KEY_STATE_READ (01), CURVE_WRITE, CURVE_READ, TRACK_CONFIG (02), PEDAL_CAL_WRITE, PEDAL_CAL_READ (03). -/

namespace Sys2Proof.Machine

/-- What a command answers. -/
abbrev Result := Host.Outcome State Fault Refusal

/-! ## KEY_CAL_WRITE (04 R59, R60) -/

/-- The calibration part stored by a write: trim clamped, rest and bottom kept where the key was AUTO (04 R60). -/
def storedKeyCal (old new : KeyCal) : KeyCal :=
  { new with
    trim := clampInt (-16) 15 new.trim
    rest := if old.mode = .auto then old.rest else new.rest
    bottom := if old.mode = .auto then old.bottom else new.bottom }

/-- The record of a key that takes a new calibration part: it awaits its first sample with its stability state cleared; a
key that becomes disabled loses its flight timer and mark (01 R13, 04 R60, R76). -/
def recalibrated (r : KeyRecord) (cal : KeyCal) : KeyRecord :=
  let off := r.cal.enabled && !cal.enabled
  { r with
    cal := cal, lastFrame := none, stabRef := none, stabCount := 0
    flight := if off then 0 else r.flight
    mark := if off then none else r.mark }

/-- What a calibration write does to the key's condition in the job (04 R66). -/
def jobAfterWrite (enabled : Bool) (j : JobCond) : JobCond :=
  match j with
  | .counting _ _ => if enabled then .counting 0 0 else .dropped
  | j => j

/-- A KEY_CAL_WRITE applied (04 R60). -/
def applyKeyCal (k : KeyIdx) (new : KeyCal) (s : State) : State :=
  let r := s.key k
  let cal := storedKeyCal r.cal new
  s.setKey k { recalibrated r cal with job := jobAfterWrite cal.enabled r.job }

/-- The fields of a calibration part in a reply (04 R58, 11 R178). -/
def keyCalBytes (c : KeyCal) : List Byte :=
  leBytes 2 c.rest ++ leBytes 2 c.bottom ++ leBytes 2 c.tOff ++ leBytes 2 c.tStart ++ leBytes 2 c.tRearm ++
    leBytes 2 c.tStrike ++ leBytes 1 c.curve ++ signedByte c.trim ++ leBytes 1 c.mode.code ++ leBytes 2 c.restLo ++
    leBytes 2 c.restHi ++ boolByte c.enabled

/-- KEY_CAL_WRITE: the checks of R59 in order, then R60. -/
def keyCalWriteOp (b : List Byte) : MsgOp := fun s =>
  if b.length ≠ 21 then (s, .err .badLength)
  else match keyOf (u8At b 0) with
    | none => (s, .err .badValue)
    | some k =>
      let new := keyCalOfBody b
      let old := (s.key k).cal
      if !keyCalRangesOk b || !linesOk new then (s, .err .badValue)
      else if old.mode = .manual ∧ spanOk new.rest new.bottom = false then (s, .err .badValue)
      else if (s.key k).motion ≠ .rest ∨ (s.key k).note ≠ .idle then (s, .err .keyBusy)
      else (applyKeyCal k new s,
        .ok (leBytes 1 k.val ++ keyCalBytes (storedKeyCal old new) ++ boolByte (decide (old.mode = .auto)) ++
          boolByte (decide (clampInt (-16) 15 new.trim ≠ new.trim))))

/-! ## KEY_CAL_READ (04 R61) and KEY_STATE_READ (01 R25) -/

/-- A range of keys named by a first key and a count of at most `most` is refused with BAD_VALUE (01 R25, 04 R61). -/
def badRange (most first count : Nat) : Bool :=
  decide (87 < first) || decide (count = 0) || decide (most < count) || decide (88 < first + count)

/-- One key's part of a KEY_CAL_READ reply (04 R61; presence byte before the reference, log 31). -/
def keyCalEntry (r : KeyRecord) : List Byte :=
  keyCalBytes r.cal ++ optBytes 2 r.stabRef ++ leBytes 2 r.stabCount ++ leBytes 1 r.job.code

/-- KEY_CAL_READ (04 R61). -/
def keyCalReadOp (b : List Byte) : MsgOp := fun s =>
  if b.length ≠ 2 then (s, .err .badLength)
  else if badRange 8 (u8At b 0) (u8At b 1) then (s, .err .badValue)
  else (s, .ok ((keyRange (u8At b 0) (u8At b 1)).flatMap (fun k => keyCalEntry (s.key k))))

/-- One key's part of a KEY_STATE_READ reply (01 R25). -/
def keyStateEntry (r : KeyRecord) : List Byte :=
  leBytes 1 r.motion.code ++ leBytes 1 r.note.code ++ leBytes 2 r.depth ++ leBytes 1 (r.lastVelocity.getD 0) ++
    leBytes 2 r.flight ++ leBytes 1 r.faultRun ++ leBytes 1 r.part ++ boolByte r.member ++ boolByte r.cal.enabled ++
    boolByte r.awaitingFirst

/-- The Scan Receiver's and the sets' part of a KEY_STATE_READ reply (01 R25). -/
def keyStateHead (s : State) : List Byte :=
  leBytes 1 s.scan.lock.code ++ leBytes 2 s.scan.errors ++ leBytes 1 s.scan.badRun ++ leBytes 1 s.scan.goodRun ++
    leBytes 1 s.tracker.flightSet.length ++ leBytes 1 s.tracker.deepCount

/-- KEY_STATE_READ (01 R25). -/
def keyStateReadOp (b : List Byte) : MsgOp := fun s =>
  if b.length ≠ 2 then (s, .err .badLength)
  else if badRange 16 (u8At b 0) (u8At b 1) then (s, .err .badValue)
  else (s, .ok (keyStateHead s ++ (keyRange (u8At b 0) (u8At b 1)).flatMap (fun k => keyStateEntry (s.key k))))

/-! ## CURVE_WRITE and CURVE_READ (02 R32, R34) -/

/-- Curve `n` (0..3). -/
def curveAt (curves : Vector Curve 4) (n : Nat) : Curve := curves.toList.getD n factoryCurve

/-- A curve value as stored: 0 as 1, above 127 as 127 (02 R32). -/
def curveValue (v : Byte) : Nat := clampNat 1 127 v.toNat

/-- Values stored one entry after another from an index, index 255 followed by 0 (02 R32). -/
def storeCurve : List Byte → Nat → Curve → Curve
  | [], _, c => c
  | v :: vs, i, c => storeCurve vs (i + 1) (c.set (i % 256) (curveValue v) (Nat.mod_lt i (by decide)))

/-- CURVE_WRITE (02 R32; the length before the curve number, log 42). -/
def curveWriteOp (b : List Byte) : MsgOp := fun s =>
  if b.length < 3 ∨ 234 < b.length then (s, .err .badLength)
  else if h : u8At b 0 < 4 then
    let vals := b.drop 2
    let clamped := (vals.filter (fun v => decide (curveValue v ≠ v.toNat))).length
    let new := storeCurve vals (u8At b 1) s.tracker.curves[u8At b 0]
    ({ s with tracker := { s.tracker with curves := s.tracker.curves.set (u8At b 0) new h } },
      .ok (leBytes 1 (u8At b 0) ++ leBytes 1 vals.length ++ leBytes 1 clamped ++
        leBytes 1 ((u8At b 1 + vals.length) % 256)))
  else (s, .err .badValue)

/-- The first `count` values of a CURVE_WRITE stored, one entry at a time, before the message is complete (02 R33). -/
def curvePart (b : List Byte) (count : Nat) (s : State) : State :=
  if h : u8At b 0 < 4 then
    let new := storeCurve ((b.drop 2).take count) (u8At b 1) s.tracker.curves[u8At b 0]
    { s with tracker := { s.tracker with curves := s.tracker.curves.set (u8At b 0) new h } }
  else s

/-- CURVE_READ (02 R34). -/
def curveReadOp (b : List Byte) : MsgOp := fun s =>
  if b.length ≠ 3 then (s, .err .badLength)
  else if 3 < u8At b 0 ∨ u8At b 2 = 0 ∨ 232 < u8At b 2 then (s, .err .badValue)
  else (s, .ok (leBytes 1 (u8At b 0) ++ leBytes 1 (u8At b 1) ++ leBytes 1 (u8At b 2) ++
    (List.range (u8At b 2)).flatMap (fun i => leBytes 1 (curveEntry s.tracker.curves (u8At b 0) ((u8At b 1 + i) % 256)))))

/-! ## TRACK_CONFIG (02 R39, R40) -/

/-- The settings a TRACK_CONFIG write stores, each clamped to its range (02 R38, R39). -/
def trackOfBody (b : List Byte) : TrackSettings :=
  { travelLimit := clampNat 64 43520 (u16At b 0), flightFrames := clampNat 80 2000 (u16At b 2),
    clearanceLine := clampNat 1 1023 (u16At b 4), splitKey := clampNat 0 88 (u8At b 6) }

/-- The four settings in a reply. -/
def trackBytes (t : TrackSettings) : List Byte :=
  leBytes 2 t.travelLimit ++ leBytes 2 t.flightFrames ++ leBytes 2 t.clearanceLine ++ leBytes 1 t.splitKey

/-- TRACK_CONFIG: an empty body reads, 7 bytes write (02 R40). -/
def trackConfigOp (b : List Byte) : MsgOp := fun s =>
  if b.length = 0 then (s, .ok (trackBytes s.tracker.track ++ [0, 0, 0, 0]))
  else if b.length = 7 then
    let t := trackOfBody b
    ({ s with tracker := { s.tracker with track := t } },
      .ok (trackBytes t ++ boolByte (decide (t.travelLimit ≠ u16At b 0)) ++ boolByte (decide (t.flightFrames ≠ u16At b 2)) ++
        boolByte (decide (t.clearanceLine ≠ u16At b 4)) ++ boolByte (decide (t.splitKey ≠ u8At b 6))))
  else (s, .err .badLength)

/-! ## PEDAL_CAL_WRITE and PEDAL_CAL_READ (03 R55, R56) -/

/-- A pedal identifier read from a number, where it is one. -/
def pedalOf (n : Nat) : Option PedalIdx := if h : n < 3 then some ⟨n, h⟩ else none

/-- A pedal's calibration part in a reply. -/
def pedalCalBytes (c : PedalCal) : List Byte :=
  leBytes 2 c.rest ++ leBytes 2 c.bottom ++ leBytes 1 c.deadband ++ c.map.toList.flatMap (leBytes 1)

/-- PEDAL_CAL_WRITE (03 R55). -/
def pedalCalWriteOp (b : List Byte) : MsgOp := fun s =>
  if b.length ≠ 23 then (s, .err .badLength)
  else match pedalOf (u8At b 0) with
    | none => (s, .err .badValue)
    | some p =>
      let c := pedalCalOfBody b
      if spanOk c.rest c.bottom = false then (s, .err .badValue)
      else (s.setPedal p { s.pedal p with cal := c },
        .ok (leBytes 1 p.val ++ pedalCalBytes c ++ leBytes 1 (pedalCalClamps b)))

/-- The data of a PEDAL_CAL_READ reply (03 R56). -/
def pedalReadBytes (p : PedalIdx) (s : State) : List Byte :=
  let r := s.pedal p
  leBytes 1 p.val ++ pedalCalBytes r.cal ++ boolByte r.awaiting ++ leBytes 1 r.value ++ optBytes 1 r.lastSent ++
    leBytes 2 r.interval ++ leBytes 1 s.pedalUnit.damper.code ++ leBytes 1 s.pedalUnit.sostenuto.code ++
    leBytes 1 (sostenutoSet s).length ++ (sostenutoSet s).flatMap (fun k => leBytes 1 k.val)

/-- PEDAL_CAL_READ (03 R56). -/
def pedalCalReadOp (b : List Byte) : MsgOp := fun s =>
  if b.length ≠ 1 then (s, .err .badLength)
  else match pedalOf (u8At b 0) with
    | none => (s, .err .badValue)
    | some p => (s, .ok (pedalReadBytes p s))

/-! ## The commands -/

/-- KEY_CAL_WRITE, code 0x10 (04 R59). -/
def execKeyCalWrite (tag : Byte) (body : List Byte) (s : State) : Result :=
  .next (completeMessage 0x10 tag (keyCalWriteOp body) s)

/-- KEY_CAL_READ, code 0x11 (04 R61). -/
def execKeyCalRead (tag : Byte) (body : List Byte) (s : State) : Result :=
  .next (completeMessage 0x11 tag (keyCalReadOp body) s)

/-- KEY_STATE_READ, code 0x12 (01 R25). -/
def execKeyStateRead (tag : Byte) (body : List Byte) (s : State) : Result :=
  .next (completeMessage 0x12 tag (keyStateReadOp body) s)

/-- CURVE_WRITE, code 0x13 (02 R32). -/
def execCurveWrite (tag : Byte) (body : List Byte) (s : State) : Result :=
  .next (completeMessage 0x13 tag (curveWriteOp body) s)

/-- CURVE_READ, code 0x14 (02 R34). -/
def execCurveRead (tag : Byte) (body : List Byte) (s : State) : Result :=
  .next (completeMessage 0x14 tag (curveReadOp body) s)

/-- TRACK_CONFIG, code 0x15 (02 R40). -/
def execTrackConfig (tag : Byte) (body : List Byte) (s : State) : Result :=
  .next (completeMessage 0x15 tag (trackConfigOp body) s)

/-- PEDAL_CAL_WRITE, code 0x18 (03 R55). -/
def execPedalCalWrite (tag : Byte) (body : List Byte) (s : State) : Result :=
  .next (completeMessage 0x18 tag (pedalCalWriteOp body) s)

/-- PEDAL_CAL_READ, code 0x19 (03 R56). -/
def execPedalCalRead (tag : Byte) (body : List Byte) (s : State) : Result :=
  .next (completeMessage 0x19 tag (pedalCalReadOp body) s)

end Sys2Proof.Machine
end

