-- ==== Sys2Proof/Machine/Calibration.lean ====
section
/-! DEFINITION. The Calibration Unit's job and Fault List (04 sections 4.3, 4.4) and the Settings Store (04 section 4.5):
CALIBRATE_REST, FAULT_LIST_READ, FAULT_CLEAR, NV_SAVE, NV_RESTORE, CAL_JOB_TIMEOUT and NV_DONE, and the work of both units at a
frame tick. -/

namespace Sys2Proof.Machine

/-! ## The calibration job (04 R65, R67) -/

/-- A key's record when a job over `first..last` is accepted (04 R65, R67). -/
def listForJob (first last : Nat) (k : KeyIdx) (r : KeyRecord) : KeyRecord :=
  if first ≤ k.val ∧ k.val ≤ last then
    if r.cal.enabled = true ∧ r.motion ≠ .fault then { r with job := .counting 0 0, stabRef := none, stabCount := 0 }
    else { r with job := .dropped }
  else { r with job := .notListed }

/-- The Key Table with every record changed by a function of its key. -/
def updateKeys (f : KeyIdx → KeyRecord → KeyRecord) (s : State) : State :=
  let keys : Vector KeyRecord 88 := ⟨(allKeys.map (fun k => f k (s.key k))).toArray, by simp [allKeys]⟩
  { s with tracker := { s.tracker with keys := keys } }

/-- Whether a key is counting in the job. -/
def isCounting (r : KeyRecord) : Bool := match r.job with | .counting _ _ => true | _ => false

/-- The number of keys counting in the job. -/
def countingKeys (s : State) : Nat := (allKeys.filter (fun k => isCounting (s.key k))).length

/-- The number of keys whose condition is done. -/
def doneKeys (s : State) : Nat := (allKeys.filter (fun k => decide ((s.key k).job = .done))).length

/-- CALIBRATE_REST (04 R65): the length, then the range, then a running job; R65 states no order of the checks (log 42). -/
def calibrateRestOp (b : List Byte) : MsgOp := fun s =>
  if b.length ≠ 2 then (s, .err .badLength)
  else
    let first := u8At b 0
    let last := u8At b 1
    if 87 < first ∨ 87 < last ∨ last < first then (s, .err .badValue)
    else if s.cal.running then (s, .err .wrongState)
    else
      let t := updateKeys (listForJob first last) s
      let u := { t with cal := { t.cal with running := true, first := first, last := last, frames := 0 } }
      (u, .ok (leBytes 1 (countingKeys u) ++ leBytes 1 (last + 1 - first - countingKeys u)))

/-- A key's record at the end of the job: a key still counting is dropped (04 R67). -/
def endForJob (r : KeyRecord) : KeyRecord :=
  match r.job with
  | .counting _ _ => { r with job := .dropped, stabRef := none, stabCount := 0 }
  | _ => r

/-- The end of the job: in-progress clear, CAL_DONE with the range, the keys done and the keys skipped (04 R67). -/
def endJob (s : State) : State :=
  let t := updateKeys (fun _ r => endForJob r) { s with cal := { s.cal with running := false } }
  raiseNotice .calDone
    (leBytes 1 s.cal.first ++ leBytes 1 s.cal.last ++ leBytes 1 (doneKeys s) ++
      leBytes 1 (s.cal.last + 1 - s.cal.first - doneKeys s)) t

/-- The job at a frame tick: its frame count is incremented, and it ends when no key is counting or the count reaches 4000
(04 R67). -/
def calJobTick (s : State) : State :=
  if s.cal.running then
    let t := { s with cal := { s.cal with frames := s.cal.frames + 1 } }
    if countingKeys t = 0 ∨ 4000 ≤ t.cal.frames then endJob t else t
  else s

/-! ## The Fault List (04 R70, R71) -/

/-- A FAULT key returned to service: REST, awaiting its first sample, fault run and stability state cleared, out of the
Fault List (04 R70). Another key is left unchanged. -/
def clearFault (k : KeyIdx) (s : State) : State :=
  if (s.key k).motion = .fault then
    let r := s.key k
    let t := s.setKey k { r with motion := .rest, lastFrame := none, faultRun := 0, stabRef := none, stabCount := 0 }
    { t with cal := { t.cal with faultList := t.cal.faultList.filter (fun j => decide (j ≠ k)) } }
  else s

/-- The overflow flag after a clear: clear when no FAULT key remains unlisted (04 R69, R70). -/
def settleOverflow (s : State) : State :=
  if unlistedFaults s = 0 then { s with cal := { s.cal with overflow := false } } else s

/-- The named keys cleared in ascending order, then the overflow flag (04 R70). -/
def clearFaults (ks : List KeyIdx) (s : State) : State := settleOverflow (ks.foldl (fun t k => clearFault k t) s)

/-- The keys a FAULT_CLEAR names: one, or every key for 255 (04 R70). -/
def namedKeys (n : Nat) : Option (List KeyIdx) :=
  if n = 255 then some allKeys else (keyOf n).map (fun k => [k])

/-- FAULT_CLEAR (04 R70; the length before the value, log 42). -/
def faultClearOp (b : List Byte) : MsgOp := fun s =>
  if b.length ≠ 1 then (s, .err .badLength)
  else match namedKeys (u8At b 0) with
    | none => (s, .err .badValue)
    | some ks =>
      let t := clearFaults ks s
      (t, .ok (leBytes 1 (ks.filter (fun k => decide ((s.key k).motion = .fault))).length ++
        leBytes 1 t.cal.faultList.length ++ boolByte t.cal.overflow ++ leBytes 1 (unlistedFaults t)))

/-- FAULT_LIST_READ (04 R71). -/
def faultListReadOp (b : List Byte) : MsgOp := fun s =>
  if b.length ≠ 0 then (s, .err .badLength)
  else (s, .ok (leBytes 1 s.cal.faultList.length ++ s.cal.faultList.flatMap (fun k => leBytes 1 k.val) ++
    boolByte s.cal.overflow ++ leBytes 1 (unlistedFaults s)))

/-! ## The Settings Store (04 R72 to R76) -/

/-- The working settings, all of R72. -/
def workingSettings (s : State) : Settings :=
  { keys := mapVec KeyRecord.cal s.tracker.keys, curves := s.tracker.curves,
    pedals := mapVec PedalRecord.cal s.pedalUnit.pedals, tableL := s.mixer.tableL, tableR := s.mixer.tableR,
    rail := s.rail.config, track := s.tracker.track }

/-- NV_SAVE: the working settings are copied into the save image, the marker is erased and the store enters SAVING
(04 R73). The length is checked before the store's state; R73 states no order (log 42). -/
def nvSaveOp (b : List Byte) : MsgOp := fun s =>
  if b.length ≠ 0 then (s, .err .badLength)
  else if s.store.saving then (s, .err .nvBusy)
  else ({ s with store := { s.store with
            saveImage := workingSettings s, valid := false, saving := true, saveFrames := 0 } }, .ok [])

/-- The completion of a save: the store is valid with the new image where the read-back matches and invalid where it does
not, returns to IDLE, and NV_DONE is raised with the result and the frames taken (04 R74). -/
def completeSave (readBackMatches : Bool) (s : State) : State :=
  let st := s.store
  let t := { s with store := { st with
    image := if readBackMatches then st.saveImage else st.image
    valid := readBackMatches, saving := false, saveFrames := 0 } }
  raiseNotice .nvDone (leBytes 1 (if readBackMatches then 0 else 1) ++ leBytes 2 st.saveFrames) t

/-- The store at a frame tick: a save ages by one frame, and completes where the store says so and at the latest at the
2,400th tick (04 R74, log 33). -/
def storeTick (done readBackMatches : Bool) (s : State) : State :=
  if s.store.saving then
    let t := { s with store := { s.store with saveFrames := s.store.saveFrames + 1 } }
    if done = true ∨ 2400 ≤ t.store.saveFrames then completeSave readBackMatches t else t
  else s

/-- Every key is at REST with status IDLE (04 R76). -/
def allKeysQuiet (s : State) : Bool :=
  allKeys.all (fun k => decide ((s.key k).motion = .rest) && decide ((s.key k).note = .idle))

/-- The settings of R72 loaded while the part runs (04 R76; 03 R57; 06 R95; 09 R160). -/
def loadSettings (set : Settings) (s : State) : State :=
  let t := updateKeys (fun k r => recalibrated r set.keys[k.val]) s
  let pedals : Vector PedalRecord 3 := ⟨((List.finRange 3).map
    (fun p => { s.pedal p with cal := set.pedals[p.val] })).toArray, by simp⟩
  { t with
    tracker := { t.tracker with curves := set.curves, track := set.track }
    pedalUnit := { t.pedalUnit with pedals := pedals }
    rail := { t.rail with config := set.rail }
    mixer := { t.mixer with tableL := set.tableL, tableR := set.tableR } }

/-- The settings source of a restore (04 R75). -/
def sourceOf (st : SettingsStore) : SettingsSource := if st.valid then .stored else .factory

/-- NV_RESTORE (04 R76): the length, then NV_BUSY, then WRONG_STATE; R76 states no order of the checks (log 42). -/
def nvRestoreOp (b : List Byte) : MsgOp := fun s =>
  if b.length ≠ 0 then (s, .err .badLength)
  else if s.store.saving then (s, .err .nvBusy)
  else if s.cal.running = true ∨ allKeysQuiet s = false then (s, .err .wrongState)
  else
    let t := loadSettings (restoredSettings s.store) s
    ({ t with store := { t.store with source := sourceOf s.store } }, .ok (leBytes 1 (sourceOf s.store).code))

/-! ## The commands -/

/-- CALIBRATE_REST, code 0x20 (04 R65). -/
def execCalibrateRest (tag : Byte) (body : List Byte) (s : State) : Result :=
  .next (completeMessage 0x20 tag (calibrateRestOp body) s)

/-- FAULT_LIST_READ, code 0x21 (04 R71). -/
def execFaultListRead (tag : Byte) (body : List Byte) (s : State) : Result :=
  .next (completeMessage 0x21 tag (faultListReadOp body) s)

/-- FAULT_CLEAR, code 0x22 (04 R70). -/
def execFaultClear (tag : Byte) (body : List Byte) (s : State) : Result :=
  .next (completeMessage 0x22 tag (faultClearOp body) s)

/-- NV_SAVE, code 0x23 (04 R73). -/
def execNvSave (tag : Byte) (body : List Byte) (s : State) : Result :=
  .next (completeMessage 0x23 tag (nvSaveOp body) s)

/-- NV_RESTORE, code 0x24 (04 R76). -/
def execNvRestore (tag : Byte) (body : List Byte) (s : State) : Result :=
  .next (completeMessage 0x24 tag (nvRestoreOp body) s)

/-- CAL_JOB_TIMEOUT (04 R67): due when this tick brings a running job's frame count to 4000; the job's work at that tick. -/
def execCalJobTimeout (s : State) : Result :=
  .next (if s.cal.running = true ∧ s.cal.frames + 1 = 4000 then calJobTick s else s)

/-- NV_DONE (04 R74): due while the store is SAVING, from the first to the 2,400th tick of the save. -/
def execNvDone (readBackMatches : Bool) (s : State) : Result :=
  .next (if s.store.saving = true ∧ 1 ≤ s.store.saveFrames ∧ s.store.saveFrames ≤ 2400 then
    completeSave readBackMatches s else s)

/-- REST_STEP (04 R62, R63): due when this steady sample of an AUTO key brings its stability count to 800; the rest step,
after which the stability state is absent and 0. That the command handles its sample in any lock state and before frame 0, where
no frame is taken (01 R5), is the model's choice (log 51). -/
def execRestStep (k : KeyIdx) (raw : Nat) (s : State) : Result :=
  let r := s.key k
  let due := decide (r.cal.mode = .auto) && r.cal.enabled && qualifies r && decide (r.stabCount + 1 = 800) &&
    !isFaultRaw raw && (match r.stabRef with | some ref => decide (distance raw ref ≤ 8) | none => false)
  .next (if due then s.setKey k (trackRest raw r) else s)

/-- CAL_KEY_COMPLETE (04 R66): due when this good sample of a counting key at REST with status IDLE brings its count to 64;
the average becomes its rest or the key is dropped. That the command handles its sample in any lock state and before frame 0,
where no frame is taken (01 R5), is the model's choice (log 51). -/
def execCalKeyComplete (k : KeyIdx) (raw : Nat) (s : State) : Result :=
  let r := s.key k
  let due := r.cal.enabled && decide (r.motion = .rest) && decide (r.note = .idle) && !isFaultRaw raw &&
    (match r.job with | .counting _ n => decide (n + 1 = 64) | _ => false)
  .next (if due then s.setKey k (jobSample raw r) else s)

end Sys2Proof.Machine
end

