-- ==== Sys2Proof/Machine/RailControl.lean ====
section
/-! DEFINITION. The Rail Controller (06): driver modes, interlock, the life of a move, notices, the live gate; RAIL_MOVE,
RAIL_CONFIG, RAIL_STATUS, RAIL_MONITOR and the rail's event commands. -/

namespace Sys2Proof.Machine

/-! ## Driver, gate, switches -/

/-- The driver mode of a release mode (06 R92). -/
def ReleaseMode.driver : ReleaseMode → Driver | .coast => .coast | .brake => .brake | .hold => .hold

/-- The driver mode of a fault mode (06 R92). -/
def FaultMode.driver : FaultMode → Driver | .coast => .coast | .brake => .brake

/-- The driver mode of a rail state (06 R92). -/
def driverOf (r : Rail) : Driver :=
  match r.state with
  | .acoustic => r.config.acousticMode.driver
  | .silent => r.config.silentMode.driver
  | .unknown => .coast
  | .waiting =>
    match r.origin with
    | some .acoustic => r.config.acousticMode.driver
    | some .silent => r.config.silentMode.driver
    | _ => .coast
  | .engaging => .driveIn
  | .releasing => .driveOut
  | .paused => .brake
  | .railFault => r.config.faultMode.driver

/-- The rail replaced, with its live gate recomputed and handed to the Mixer (06 R111). -/
def State.setRail (s : State) (r : Rail) : State :=
  let g := gateOf r.state r.origin r.monitor
  { s with rail := { r with gate := g }, mixer := { s.mixer with gate := g } }

/-- The rail replaced after a change of rail state, with the driver mode of the new state; before the first frame tick after
a reset the driver stays COAST (06 R92, R94; log 21). -/
def State.moveRail (s : State) (r : Rail) : State :=
  s.setRail { r with driver := if s.clock.started then driverOf r else .coast }

/-- The end state of an end. -/
def RailEnd.state : RailEnd → RailState | .acoustic => .acoustic | .silent => .silent

/-- The driving state of a target (06 R103). -/
def RailEnd.drive : RailEnd → RailState | .acoustic => .releasing | .silent => .engaging

/-- The origin an end is. -/
def RailEnd.origin : RailEnd → RailOrigin | .acoustic => .acoustic | .silent => .silent

/-- The state an origin returns to (06 R102). -/
def RailOrigin.state : RailOrigin → RailState | .acoustic => .acoustic | .silent => .silent | .unknown => .unknown

/-- An end's switch is latched asserted (06 R93). -/
def switchAt (r : Rail) : RailEnd → Bool | .acoustic => r.acousticSwitch | .silent => r.silentSwitch

/-- The target's switch is latched asserted. -/
def atTarget (r : Rail) : Bool := match r.target with | some t => switchAt r t | none => false

/-- The end switches sampled into the latch (06 R93). -/
def latch (sw : Switches) (s : State) : State :=
  { s with rail := { s.rail with acousticSwitch := sw.acoustic, silentSwitch := sw.silent } }

/-- The motion limit in frames (06 R95). -/
def motionFrames (c : RailConfig) : Nat := 8 * c.motionLimit

/-- The clearance timeout in frames (06 R95). -/
def clearFrames (c : RailConfig) : Nat := 8 * c.clearTimeout

/-! ## The interlock (06 R97) -/

/-- The interlock as the Rail Controller would evaluate it now (06 R97). -/
def interlockNow (s : State) : Interlock :=
  { satisfied := s.tracker.flightSet.isEmpty && decide (s.tracker.deepCount = 0) && decide (s.scan.lock = .locked) &&
      !s.cal.overflow
    flightSize := s.tracker.flightSet.length, deep := s.tracker.deepCount, lock := s.scan.lock,
    overflow := s.cal.overflow }

/-- The interlock evaluated, its result and conditions kept for RAIL_STATUS (06 R97, R113). -/
def evaluate (s : State) : State := { s with rail := { s.rail with eval := interlockNow s } }

/-! ## Notices (06 R110, 11 R180) -/

/-- RAIL_DONE: result, rail state, pause count, driving time, pause time. -/
def railDone (result : Nat) (state : RailState) (pauseCount driving pause : Nat) (s : State) : State :=
  raiseNotice .railDone
    (leBytes 1 result ++ leBytes 1 state.code ++ leBytes 1 pauseCount ++ leBytes 2 driving ++ leBytes 3 pause) s

/-- The target and latch byte of RAIL_FAULT: bits 0–1 the target, 3 when absent, bit 6 the acoustic switch, bit 7 the silent
switch; bits 2–5 are stated nowhere and are free (log 26). -/
def targetLatchByte (r : Rail) (free : Byte) : Byte :=
  BitVec.ofNat 8 ((match r.target with | some t => t.code | none => 3) + (if r.acousticSwitch then 64 else 0) +
    (if r.silentSwitch then 128 else 0)) ||| (free &&& 0x3C#8)

/-! ## The life of a move -/

/-- Entry into WAITING (06 R99). -/
def enterWaiting (origin : RailOrigin) (target : RailEnd) (s : State) : State :=
  s.moveRail { s.rail with
    state := .waiting, origin := some origin, target := some target, next := none, reason := none
    clearance := clearFrames s.rail.config, motion := 0, pause := 0, pauseCount := 0, startLimit := 0 }

/-- Entry into RAIL_FAULT with its notice (06 R108, R110). -/
def enterRailFault (reason : RailReason) (s : State) : State :=
  let t := raiseNotice .railFault
    (leBytes 1 reason.code ++ leBytes 1 s.rail.state.code ++ [targetLatchByte s.rail (Config.freeByte s.free)] ++
      leBytes 2 s.rail.motion ++ leBytes 3 s.rail.pause) (s.drawn 1)
  t.moveRail { t.rail with
    state := .railFault, reason := some reason, origin := none, target := none, next := none, clearance := 0 }

/-- Arrival at `target` (06 R106): the end state, RAIL_DONE(ARRIVED), and a new WAITING for a stored next target (R100). -/
def arrive (target : RailEnd) (s : State) : State :=
  let r := s.rail
  let t := s.moveRail { r with state := target.state, origin := none, target := none, next := none }
  let u := railDone 0 target.state r.pauseCount (r.startLimit - r.motion) r.pause t
  match r.next with
  | none => u
  | some n => enterWaiting target.origin n u

/-- The start of a move that is not at its target yet (06 R103). -/
def startMove (target : RailEnd) (s : State) : State :=
  s.moveRail { s.rail with
    state := target.drive, origin := none, clearance := 0
    motion := motionFrames s.rail.config, startLimit := motionFrames s.rail.config }

/-- A wait that expires: back to the origin state, RAIL_DONE(CLEAR_TIMEOUT) (06 R102). -/
def expireWait (s : State) : State :=
  let st := (s.rail.origin.getD .unknown).state
  let t := s.moveRail { s.rail with state := st, origin := none, target := none, clearance := 0 }
  railDone 2 st 0 0 0 t

/-- A pause (06 R104). -/
def pauseMove (s : State) : State :=
  s.moveRail { s.rail with state := .paused, pauseCount := satInc 255 s.rail.pauseCount }

/-- A resume (06 R105). -/
def resumeMove (s : State) : State :=
  s.moveRail { s.rail with state := (s.rail.target.getD .silent).drive }

/-- A rail at an end displaced from it: the state its switches show, RAIL_DONE(DISPLACED) (06 R109). -/
def displace (s : State) : State :=
  let st := railStateOf { acoustic := s.rail.acousticSwitch, silent := s.rail.silentSwitch }
  railDone 3 st 0 0 0 (s.moveRail { s.rail with state := st })

/-! ## The work of a frame tick (06 R101) -/

/-- What the rail's work at a tick comes to, once the switches are latched. -/
inductive RailEvent
  | conflict
  | displaced
  | arrival
  | start
  | clearTimeout
  | waitOn
  | pause
  | stall
  | driveOn
  | resume
  | blocked
  | pauseOn
  | still
  deriving DecidableEq, Repr

/-- The event of the rail's work at a tick, from the latched switches and the interlock as it stands (06 R93, R101 to
R109). -/
def railEvent (s : State) : RailEvent :=
  let r := s.rail
  let ok := (interlockNow s).satisfied
  if r.acousticSwitch && r.silentSwitch then
    (if r.state = .railFault ∧ r.reason = some .switchConflict then .still else .conflict)
  else match r.state with
    | .acoustic => if r.acousticSwitch then .still else .displaced
    | .silent => if r.silentSwitch then .still else .displaced
    | .waiting =>
      if ok then (if atTarget r then .arrival else .start)
      else if r.clearance ≤ 1 then .clearTimeout else .waitOn
    | .engaging | .releasing =>
      if atTarget r then .arrival
      else if !ok then .pause
      else if r.motion ≤ 1 then .stall else .driveOn
    | .paused =>
      if atTarget r then .arrival
      else if ok then .resume
      else if clearFrames r.config < r.pause + 1 then .blocked else .pauseOn
    | .railFault | .unknown => .still

/-- The driver mode set again from the configuration in force, in ACOUSTIC, SILENT, WAITING and RAIL_FAULT (06 R92, R101);
before the first frame tick after a reset it stays COAST (log 21). -/
def resetDriver (s : State) : State :=
  match s.rail.state with
  | .acoustic | .silent | .waiting | .railFault =>
    { s with rail := { s.rail with driver := if s.clock.started then driverOf s.rail else .coast } }
  | _ => s

/-- The motion timer run out: RAIL_FAULT with reason STALL (06 R107). -/
def stallMove (s : State) : State := enterRailFault .stall { s with rail := { s.rail with motion := 0 } }

/-- The pause timer beyond the clearance timeout: RAIL_FAULT with reason BLOCKED (06 R105). -/
def blockMove (s : State) : State := enterRailFault .blocked { s with rail := { s.rail with pause := s.rail.pause + 1 } }

/-- The state an event of the rail's tick work leads to. -/
def railApply (ev : RailEvent) (s : State) : State :=
  match ev with
  | .conflict => enterRailFault .switchConflict s
  | .displaced => displace s
  | .arrival => arrive (s.rail.target.getD .silent) s
  | .start => startMove (s.rail.target.getD .silent) s
  | .clearTimeout => expireWait s
  | .waitOn => { s with rail := { s.rail with clearance := s.rail.clearance - 1 } }
  | .pause => pauseMove s
  | .stall => stallMove s
  | .driveOn => { s with rail := { s.rail with motion := s.rail.motion - 1 } }
  | .resume => resumeMove s
  | .blocked => blockMove s
  | .pauseOn => { s with rail := { s.rail with pause := s.rail.pause + 1 } }
  | .still => s

/-- The switches latched and the interlock evaluated for a tick; a conflict that is entered stops before the evaluation
(06 R93, R97, R101; log 19). -/
def railPrepare (sw : Switches) (s : State) : State :=
  let t := latch sw s
  if railEvent t = .conflict then t else evaluate t

/-- The Rail Controller's work at a frame tick (06 R101). -/
def railTick (sw : Switches) (s : State) : State :=
  let t := railPrepare sw s
  resetDriver (railApply (railEvent t) t)

/-- What of the rail's tick work comes before any evaluation of the interlock: a conflict, a displacement, an arrival of a move
under way (06 R93, R101, R106, R109). -/
def railEarlyEvent (sw : Switches) (s : State) : Option RailEvent :=
  match railEvent (latch sw s) with
  | .conflict => some .conflict
  | .displaced => some .displaced
  | .arrival => if s.rail.state = .waiting then none else some .arrival
  | _ => none

/-- That part of the rail's tick work done, the interlock still to be evaluated (06 R101). -/
def railEarly (ev : RailEvent) (sw : Switches) (s : State) : State := resetDriver (railApply ev (latch sw s))

/-- The scan-frame evaluation: it may pause a move and does nothing else (06 R97, R104). -/
def railScanEval (s : State) : State :=
  let t := evaluate s
  if (t.rail.state = .engaging ∨ t.rail.state = .releasing) ∧ t.rail.eval.satisfied = false then pauseMove t else t

/-- The rail's tick work where it comes to `ev`, else nothing: the body of the rail's event commands. -/
def railEventStep (ev : RailEvent) (sw : Switches) (s : State) : State :=
  if railEvent (latch sw s) = ev then railTick sw s else s

/-! ## RAIL_MOVE (06 R98) -/

/-- Outcomes of a RAIL_MOVE, coded in the order of R98's table (11 R178). -/
inductive MoveOutcome
  | already | waiting | cancelled | unchanged | retargeted | nextStored
  deriving DecidableEq, Repr

/-- Code of a RAIL_MOVE outcome. -/
def MoveOutcome.code : MoveOutcome → Nat
  | .already => 0 | .waiting => 1 | .cancelled => 2 | .unchanged => 3 | .retargeted => 4 | .nextStored => 5

/-- A cancellation: back to the origin end, RAIL_DONE(CANCELLED), the driver mode left as it is (06 R98). -/
def cancelMove (target : RailEnd) (s : State) : State :=
  railDone 1 target.state 0 0 0
    (s.setRail { s.rail with state := target.state, origin := none, target := none, clearance := 0 })

/-- The effect of an accepted RAIL_MOVE by the rail state (06 R98 to R100). -/
def moveTo (target : RailEnd) (s : State) : State × MoveOutcome :=
  match s.rail.state with
  | .acoustic => if target = .acoustic then (s, .already) else (enterWaiting .acoustic target s, .waiting)
  | .silent => if target = .silent then (s, .already) else (enterWaiting .silent target s, .waiting)
  | .unknown | .railFault => (enterWaiting .unknown target s, .waiting)
  | .waiting =>
    if s.rail.origin = some target.origin then (cancelMove target s, .cancelled)
    else if s.rail.target = some target then (s, .unchanged)
    else (s.setRail { s.rail with target := some target }, .retargeted)
  | .engaging | .releasing | .paused =>
    if s.rail.target = some target then (s, .unchanged)
    else (s.setRail { s.rail with next := some target }, .nextStored)

/-- RAIL_MOVE (06 R98). -/
def railMoveOp (b : List Byte) : MsgOp := fun s =>
  if b.length ≠ 1 then (s, .err .badLength)
  else if 1 < u8At b 0 then (s, .err .badValue)
  else
    let m := moveTo (if u8At b 0 = 0 then .acoustic else .silent) s
    (m.1, .ok (leBytes 1 m.2.code ++ leBytes 1 m.1.rail.state.code))

/-! ## RAIL_CONFIG, RAIL_STATUS, RAIL_MONITOR (06 R96, R112, R113) -/

/-- A release mode by its code (06 R96). -/
def releaseOf (n : Nat) : ReleaseMode := if n = 0 then .coast else if n = 1 then .brake else .hold

/-- The configuration a RAIL_CONFIG write stores (06 R96). -/
def railConfigOfBody (b : List Byte) : RailConfig :=
  { motionLimit := clampNat 100 4000 (u16At b 0), clearTimeout := clampNat 100 10000 (u16At b 2),
    silentMode := releaseOf (u8At b 4), acousticMode := releaseOf (u8At b 5),
    faultMode := if u8At b 6 = 0 then .coast else .brake }

/-- The five settings in a reply. -/
def railConfigBytes (c : RailConfig) : List Byte :=
  leBytes 2 c.motionLimit ++ leBytes 2 c.clearTimeout ++ leBytes 1 c.silentMode.code ++ leBytes 1 c.acousticMode.code ++
    leBytes 1 c.faultMode.code

/-- RAIL_CONFIG: an empty body reads, 7 bytes write (06 R96). -/
def railConfigOp (b : List Byte) : MsgOp := fun s =>
  if b.length = 0 then (s, .ok (railConfigBytes s.rail.config ++ [0, 0]))
  else if b.length = 7 then
    if 2 < u8At b 4 ∨ 2 < u8At b 5 ∨ 1 < u8At b 6 then (s, .err .badValue)
    else
      let c := railConfigOfBody b
      ({ s with rail := { s.rail with config := c } },
        .ok (railConfigBytes c ++ boolByte (decide (c.motionLimit ≠ u16At b 0)) ++
          boolByte (decide (c.clearTimeout ≠ u16At b 2))))
  else (s, .err .badLength)

/-- The data of a RAIL_STATUS reply (06 R113). -/
def railStatusBytes (r : Rail) : List Byte :=
  leBytes 1 r.state.code ++ optBytes 1 (r.origin.map RailOrigin.code) ++ optBytes 1 (r.target.map RailEnd.code) ++
    optBytes 1 (r.next.map RailEnd.code) ++ optBytes 1 (r.reason.map RailReason.code) ++ leBytes 1 r.driver.code ++
    leBytes 4 r.clearance ++ leBytes 2 r.motion ++ leBytes 4 r.pause ++ leBytes 1 r.pauseCount ++
    boolByte r.acousticSwitch ++ boolByte r.silentSwitch ++ boolByte r.eval.satisfied ++ leBytes 1 r.eval.flightSize ++
    leBytes 1 r.eval.deep ++ leBytes 1 r.eval.lock.code ++ boolByte r.eval.overflow ++ boolByte r.monitor ++
    leBytes 1 r.gate.code

/-- RAIL_STATUS (06 R113). -/
def railStatusOp (b : List Byte) : MsgOp := fun s =>
  if b.length ≠ 0 then (s, .err .badLength) else (s, .ok (railStatusBytes s.rail))

/-- RAIL_MONITOR (06 R112). -/
def railMonitorOp (b : List Byte) : MsgOp := fun s =>
  if b.length = 0 then (s, .ok (boolByte s.rail.monitor ++ leBytes 1 s.rail.gate.code))
  else if b.length = 1 then
    if 1 < u8At b 0 then (s, .err .badValue)
    else
      let t := s.setRail { s.rail with monitor := decide (u8At b 0 = 1) }
      (t, .ok (boolByte t.rail.monitor ++ leBytes 1 t.rail.gate.code))
  else (s, .err .badLength)

/-! ## The commands -/

/-- RAIL_MOVE, code 0x30 (06 R98). -/
def execRailMove (tag : Byte) (body : List Byte) (s : State) : Result :=
  .next (completeMessage 0x30 tag (railMoveOp body) s)

/-- RAIL_CONFIG, code 0x31 (06 R96). -/
def execRailConfig (tag : Byte) (body : List Byte) (s : State) : Result :=
  .next (completeMessage 0x31 tag (railConfigOp body) s)

/-- RAIL_STATUS, code 0x32 (06 R113). -/
def execRailStatus (tag : Byte) (body : List Byte) (s : State) : Result :=
  .next (completeMessage 0x32 tag (railStatusOp body) s)

/-- RAIL_MONITOR, code 0x33 (06 R112). -/
def execRailMonitor (tag : Byte) (body : List Byte) (s : State) : Result :=
  .next (completeMessage 0x33 tag (railMonitorOp body) s)

/-- CLEAR_TIMEOUT (06 R102). -/
def execClearTimeout (sw : Switches) (s : State) : Result := .next (railEventStep .clearTimeout sw s)

/-- RAIL_START (06 R103): the move starts driving, or arrives at once where the target's switch is asserted. -/
def execRailStart (sw : Switches) (s : State) : Result :=
  .next (if s.rail.state = .waiting ∧ railEvent (latch sw s) = .arrival then railTick sw s
    else railEventStep .start sw s)

/-- RAIL_RESUME (06 R105). -/
def execRailResume (sw : Switches) (s : State) : Result := .next (railEventStep .resume sw s)

/-- RAIL_BLOCKED (06 R105). -/
def execRailBlocked (sw : Switches) (s : State) : Result := .next (railEventStep .blocked sw s)

/-- RAIL_STALL (06 R107). -/
def execRailStall (sw : Switches) (s : State) : Result := .next (railEventStep .stall sw s)

/-- RAIL_ARRIVAL (06 R106). -/
def execRailArrival (sw : Switches) (s : State) : Result := .next (railEventStep .arrival sw s)

/-- RAIL_DISPLACED (06 R109). -/
def execRailDisplaced (sw : Switches) (s : State) : Result := .next (railEventStep .displaced sw s)

/-- SWITCH_CONFLICT (06 R93): both end switches sampled asserted. -/
def execSwitchConflict (s : State) : Result :=
  .next (railEventStep .conflict { acoustic := true, silent := true } s)

end Sys2Proof.Machine
end

