-- ==== Sys2Proof/Machine/MixMessages.lean ====
section
/-! DEFINITION. The Mixer's messages MIX_MODE, MIX_BALANCE, GAIN_TABLE_WRITE, GAIN_TABLE_READ, VOLUME_SET, MIX_STATUS (09), and
the events BALANCE_TRIGGER (09 R157), FADE_END (09 R158) and CLICK_END (08 R150). -/

namespace Sys2Proof.Machine

/-! ## MIX_MODE (09 R154) -/

/-- A mix mode by its code (09 R154). -/
def mixModeOf (n : Nat) : Option MixMode :=
  match n with
  | 0 => some .blend
  | 1 => some .liveOnly
  | 2 => some .takeOnly
  | _ => none

/-- The mix mode and the pending mode in a reply (09 R154). -/
def mixModeBytes (m : Mixer) : List Byte := leBytes 1 m.mode.code ++ optBytes 1 (m.pendingMode.map MixMode.code)

/-- MIX_MODE: an empty body reads, 1 byte stores the pending mode (09 R154). -/
def mixModeOp (b : List Byte) : MsgOp := fun s =>
  if b.length = 0 then (s, .ok (mixModeBytes s.mixer))
  else if b.length = 1 then
    match mixModeOf (u8At b 0) with
    | none => (s, .err .badValue)
    | some mode =>
      let m := { s.mixer with pendingMode := some mode }
      ({ s with mixer := m }, .ok (mixModeBytes m))
  else (s, .err .badLength)

/-! ## MIX_BALANCE (09 R156) -/

/-- A balance trigger by its code (09 R156). -/
def balTriggerOf (n : Nat) : Option BalTrigger :=
  match n with
  | 0 => some .now
  | 1 => some .atBar
  | 2 => some .atSection
  | _ => none

/-- A running fade, or its absence, in a reply: presence byte, target, remaining frames. -/
def fadeBytes (f : Option Fade) : List Byte :=
  match f with
  | none => 0 :: (leBytes 2 0 ++ leBytes 2 0)
  | some f => 1 :: (leBytes 2 f.target ++ leBytes 2 f.remaining)

/-- A pending balance change, or its absence, in a reply: presence byte, target, fade frames, trigger. -/
def pendingBalBytes (p : Option PendingBalance) : List Byte :=
  match p with
  | none => 0 :: (leBytes 2 0 ++ leBytes 2 0 ++ leBytes 1 0)
  | some p => 1 :: (leBytes 2 p.target ++ leBytes 2 p.frames ++ leBytes 1 p.trigger.code)

/-- The data of a MIX_BALANCE reply (09 R156; one byte for "alpha or the fade frames were clamped", log 30). -/
def mixBalanceBytes (m : Mixer) (clamped : Bool) : List Byte :=
  pendingBalBytes m.pendingBal ++ boolByte clamped ++ leBytes 2 m.bal ++ fadeBytes m.fade

/-- The pending change a MIX_BALANCE body stores: alpha clamped to 0..32 and times 1024, fade frames clamped to 0..4095
(09 R156). -/
def pendingBalOfBody (b : List Byte) (t : BalTrigger) : PendingBalance :=
  { target := clampNat 0 32 (u8At b 0) * 1024, frames := clampNat 0 4095 (u16At b 1), trigger := t }

/-- Alpha or the fade frames of a MIX_BALANCE body are clamped. -/
def mixBalanceClamped (b : List Byte) : Bool := decide (32 < u8At b 0) || decide (4095 < u16At b 1)

/-- MIX_BALANCE: an empty body reads, 4 bytes store the pending change (09 R156). -/
def mixBalanceOp (b : List Byte) : MsgOp := fun s =>
  if b.length = 0 then (s, .ok (mixBalanceBytes s.mixer false))
  else if b.length = 4 then
    match balTriggerOf (u8At b 3) with
    | none => (s, .err .badValue)
    | some t =>
      let m := { s.mixer with pendingBal := some (pendingBalOfBody b t) }
      ({ s with mixer := m }, .ok (mixBalanceBytes m (mixBalanceClamped b)))
  else (s, .err .badLength)

/-! ## GAIN_TABLE_WRITE and GAIN_TABLE_READ (09 R161, R162) -/

/-- Values stored one entry after another from an index, each at most 32768, index 63 followed by 0 (09 R161). -/
def storeGains : List Nat → Nat → GainTable → GainTable
  | [], _, t => t
  | v :: vs, i, t => storeGains vs (i + 1) (t.set (i % 64) (min v 32768) (Nat.mod_lt i (by decide)))

/-- GAIN_TABLE_WRITE: access 0 BOTH, 1 LEFT, 2 RIGHT (09 R161). The length is checked before the access and the index; R161
states no order (log 42). -/
def gainTableWriteOp (b : List Byte) : MsgOp := fun s =>
  if b.length < 4 ∨ 130 < b.length ∨ b.length % 2 = 1 then (s, .err .badLength)
  else if 2 < u8At b 0 ∨ 63 < u8At b 1 then (s, .err .badValue)
  else
    let vals := u16List (b.drop 2)
    let left := if u8At b 0 = 2 then s.mixer.tableL else storeGains vals (u8At b 1) s.mixer.tableL
    let right := if u8At b 0 = 1 then s.mixer.tableR else storeGains vals (u8At b 1) s.mixer.tableR
    ({ s with mixer := { s.mixer with tableL := left, tableR := right } },
      .ok (leBytes 1 (u8At b 0) ++ leBytes 1 vals.length ++
        leBytes 1 (vals.filter (fun v => decide (32768 < v))).length ++ leBytes 1 ((u8At b 1 + vals.length) % 64)))

/-- GAIN_TABLE_READ: mode 2 reads the right table, modes 0 and 1 the left (09 R162; the length before the values, log 42). -/
def gainTableReadOp (b : List Byte) : MsgOp := fun s =>
  if b.length ≠ 3 then (s, .err .badLength)
  else if 2 < u8At b 0 ∨ 63 < u8At b 1 ∨ u8At b 2 = 0 ∨ 64 < u8At b 2 then (s, .err .badValue)
  else
    let t := if u8At b 0 = 2 then s.mixer.tableR else s.mixer.tableL
    (s, .ok (leBytes 1 (u8At b 0) ++ leBytes 1 (u8At b 1) ++ leBytes 1 (u8At b 2) ++
      (List.range (u8At b 2)).flatMap (fun i => leBytes 2 (tableGain t ((u8At b 1 + i) % 64)))))

/-! ## VOLUME_SET (09 R159) -/

/-- The data of a VOLUME_SET reply: index, whether clamped, the two targets, the two effective gains (09 R159). -/
def volumeBytes (m : Mixer) (clamped : Bool) : List Byte :=
  leBytes 1 m.index ++ boolByte clamped ++ leBytes 2 m.targetL ++ leBytes 2 m.targetR ++ leBytes 2 m.gainL ++
    leBytes 2 m.gainR

/-- VOLUME_SET: an empty body reads, 1 byte stores the index (09 R159). -/
def volumeSetOp (b : List Byte) : MsgOp := fun s =>
  if b.length = 0 then (s, .ok (volumeBytes s.mixer false))
  else if b.length = 1 then
    let m := { s.mixer with index := clampNat 0 63 (u8At b 0) }
    ({ s with mixer := m }, .ok (volumeBytes m (decide (63 < u8At b 0))))
  else (s, .err .badLength)

/-! ## MIX_STATUS (09 R165) -/

/-- Whether a click is under way and its beat shape: a presence byte and 0 for beat 1, 1 for another beat (log 39). -/
def clickBytes (c : Option Click) : List Byte :=
  match c with
  | none => [0, 0]
  | some c => 1 :: leBytes 1 (if c.beatOne then 0 else 1)

/-- The data of a MIX_STATUS reply (09 R165). -/
def mixStatusBytes (m : Mixer) : List Byte :=
  mixModeBytes m ++ leBytes 2 m.bal ++ fadeBytes m.fade ++ pendingBalBytes m.pendingBal ++ leBytes 1 m.gate.code ++
    leBytes 2 m.gateGain ++ leBytes 1 m.index ++ leBytes 2 m.targetL ++ leBytes 2 m.targetR ++ leBytes 2 m.gainL ++
    leBytes 2 m.gainR ++ leBytes 2 m.weightA ++ leBytes 2 m.weightB ++ clickBytes m.click ++ leBytes 2 m.saturation

/-- MIX_STATUS: 0 reads, 1 reads and then clears the saturation counter (09 R165). -/
def mixStatusOp (b : List Byte) : MsgOp := fun s =>
  if b.length ≠ 1 then (s, .err .badLength)
  else if 1 < u8At b 0 then (s, .err .badValue)
  else if u8At b 0 = 1 then ({ s with mixer := { s.mixer with saturation := 0 } }, .ok (mixStatusBytes s.mixer))
  else (s, .ok (mixStatusBytes s.mixer))

/-! ## The commands -/

/-- MIX_MODE, code 0x40 (09 R154). -/
def execMixMode (tag : Byte) (body : List Byte) (s : State) : Result :=
  .next (completeMessage 0x40 tag (mixModeOp body) s)

/-- MIX_BALANCE, code 0x41 (09 R156). -/
def execMixBalance (tag : Byte) (body : List Byte) (s : State) : Result :=
  .next (completeMessage 0x41 tag (mixBalanceOp body) s)

/-- GAIN_TABLE_WRITE, code 0x42 (09 R161). -/
def execGainTableWrite (tag : Byte) (body : List Byte) (s : State) : Result :=
  .next (completeMessage 0x42 tag (gainTableWriteOp body) s)

/-- GAIN_TABLE_READ, code 0x43 (09 R162). -/
def execGainTableRead (tag : Byte) (body : List Byte) (s : State) : Result :=
  .next (completeMessage 0x43 tag (gainTableReadOp body) s)

/-- VOLUME_SET, code 0x44 (09 R159). -/
def execVolumeSet (tag : Byte) (body : List Byte) (s : State) : Result :=
  .next (completeMessage 0x44 tag (volumeSetOp body) s)

/-- MIX_STATUS, code 0x45 (09 R165). -/
def execMixStatus (tag : Byte) (body : List Byte) (s : State) : Result :=
  .next (completeMessage 0x45 tag (mixStatusOp body) s)

/-- BALANCE_TRIGGER (09 R157): a pending change that the cause triggers is triggered. The cause is taken as handed, whatever the
player state; that the Player hands none in some states is not checked here (the model's choice, log 45). -/
def execBalanceTrigger (cause : BalanceCause) (s : State) : Result := .next (handCause cause s)

/-- FADE_END (09 R158): due when one frame of a fade remains; the last fade step. -/
def execFadeEnd (s : State) : Result :=
  .next (match s.mixer.fade with
    | some f => if f.remaining = 1 then { s with mixer := fadeStep s.mixer } else s
    | none => s)

/-- CLICK_END (08 R150): due when the 96 samples of the click have been formed; the click ends by itself. -/
def execClickEnd (s : State) : Result :=
  .next (match s.mixer.click with
    | some c => if 96 ≤ c.next then { s with mixer := { s.mixer with click := none } } else s
    | none => s)

end Sys2Proof.Machine
end

