-- ==== Sys2Proof/Machine/TakeMessages.lean ====
section
/-! DEFINITION. Messages of Take Memory and the Capture Recorder: TAKE_HEADER_WRITE, TAKE_WRITE, CAPTURE_READ, RECORD_START,
RECORD_STOP, PROMOTE, and the events RECORD_CUE_START and RECORD_FIRST_KEY_START (07). -/

namespace Sys2Proof.Machine

/-! ## Headers (07 R116, R117) -/

/-- A header in a reply: record count, bar length, beats per bar. -/
def headerBytes (h : AreaHeader) : List Byte := leBytes 2 h.count ++ leBytes 4 h.barLen ++ leBytes 1 h.beats

/-- The roles of area 0 and area 1 in a reply: 0 TAKE, 1 CAPTURE (07 R114, 11 R178). -/
def roleBytes (m : TakeMemory) : List Byte := if m.takeIsArea0 then [0, 1] else [1, 0]

/-- Bar values within the limits of R116. -/
def barsOk (barLen beats : Nat) : Bool :=
  decide (800 ≤ barLen) && decide (barLen ≤ 128000) && decide (1 ≤ beats) && decide (beats ≤ 16) &&
    decide (barLen % beats = 0)

/-- The header a TAKE_HEADER_WRITE body carries (11 R180). -/
def headerOfBody (b : List Byte) : AreaHeader := { count := u16At b 0, barLen := u32At b 2, beats := u8At b 6 }

/-- The take header replaced. -/
def TakeMemory.setTakeHeader (m : TakeMemory) (h : AreaHeader) : TakeMemory := m.setTake { m.take with header := h }

/-- The start target made absent, as each accepted change of the take does (08 R142). -/
def forgetStartTarget (s : State) : State := { s with player := { s.player with startTarget := none } }

/-- TAKE_HEADER_WRITE: an empty body reads, 7 bytes write; the checks in the order length, state, values (07 R117). -/
def takeHeaderWriteOp (b : List Byte) : MsgOp := fun s =>
  if b.length = 0 then
    (s, .ok (headerBytes s.memory.take.header ++ headerBytes s.memory.capture.header ++ roleBytes s.memory))
  else if b.length = 7 then
    let h := headerOfBody b
    if s.player.state ≠ .stopped then (s, .err .wrongState)
    else if 16384 < h.count ∨ barsOk h.barLen h.beats = false then (s, .err .badValue)
    else (forgetStartTarget { s with memory := s.memory.setTakeHeader h }, .ok (headerBytes h))
  else (s, .err .badLength)

/-! ## TAKE_WRITE (07 R118) -/

/-- The number of records a TAKE_WRITE body carries. -/
def takeWriteCount (b : List Byte) : Nat := (b.length - 2) / 8

/-- The length of a TAKE_WRITE body is 2 and a multiple of 8, with 1 to 29 records (07 R118). -/
def takeWriteLengthOk (b : List Byte) : Bool :=
  decide (10 ≤ b.length) && decide (b.length ≤ 234) && decide ((b.length - 2) % 8 = 0)

/-- The records of a TAKE_WRITE body, where every one is accepted (07 R118, 11 R178). -/
def takeWriteRecords (b : List Byte) : Option (List TakeRecord) :=
  (List.range (takeWriteCount b)).mapM (fun i => takeRecordOf (recordBytes b i))

/-- Records stored in consecutive slots. -/
def storeRecords : List TakeRecord → Nat → Slots → Slots
  | [], _, m => m
  | r :: rs, i, m => storeRecords rs (i + 1) (slotPut m i r)

/-- TAKE_WRITE (07 R118). -/
def takeWriteOp (b : List Byte) : MsgOp := fun s =>
  if takeWriteLengthOk b = false then (s, .err .badLength)
  else if s.player.state ≠ .stopped then (s, .err .wrongState)
  else if 16384 < u16At b 0 + takeWriteCount b then (s, .err .badValue)
  else match takeWriteRecords b with
    | none => (s, .err .badValue)
    | some rs =>
      let a := s.memory.take
      let m := s.memory.setTake { a with slots := storeRecords rs (u16At b 0) a.slots }
      (forgetStartTarget { s with memory := m },
        .ok (leBytes 1 rs.length ++ leBytes 2 (u16At b 0 + rs.length) ++ leBytes 2 a.header.count))

/-! ## CAPTURE_READ (07 R119) -/

/-- The number of records a CAPTURE_READ returns: those from the start index below the record count, up to the count asked
for (07 R119). -/
def captureReadCount (count start asked : Nat) : Nat := min asked (count - start)

/-- CAPTURE_READ (07 R119). -/
def captureReadOp (b : List Byte) : MsgOp := fun s =>
  if b.length ≠ 3 then (s, .err .badLength)
  else if u8At b 2 = 0 ∨ 28 < u8At b 2 then (s, .err .badValue)
  else
    let a := s.memory.capture
    let n := captureReadCount a.header.count (u16At b 0) (u8At b 2)
    (s, .ok (leBytes 1 s.recorder.state.code ++ headerBytes a.header ++ leBytes 2 (u16At b 0) ++ leBytes 1 n ++
      (List.range n).flatMap (fun i => takeBytes (slotAt a.slots (u16At b 0 + i)))))

/-! ## RECORD_START and RECORD_STOP (07 R121, R129) -/

/-- A recording's trigger by its code (07 R121). -/
def recTriggerOf (n : Nat) : Option RecTrigger :=
  match n with
  | 0 => some .now
  | 1 => some .firstKey
  | 2 => some .cue
  | _ => none

/-- The values of a RECORD_START body are accepted (07 R121). -/
def recordStartOk (b : List Byte) : Bool :=
  decide (u8At b 0 ≤ 2) && decide (u8At b 1 ≤ 1) && decide (u8At b 3 ≤ 1) &&
    !(decide (u8At b 1 = 1) && decide (3 < u8At b 2)) && barsOk (u32At b 4) (u8At b 8)

/-- The recorder with an accepted RECORD_START stored: ARMED with its trigger and pending bar values (07 R121). -/
def armRecorder (b : List Byte) (r : Recorder) : Recorder :=
  { r with
    state := .armed, trigger := recTriggerOf (u8At b 0)
    partMode := if u8At b 1 = 1 then .fixed (u8At b 2) else .split
    pedals := decide (u8At b 3 = 1), pendingBars := some (u32At b 4, u8At b 8) }

/-- RECORD_START: the checks in the order length, state, values; NOW starts at once (07 R121, R122). -/
def recordStartOp (b : List Byte) : MsgOp := fun s =>
  if b.length ≠ 9 then (s, .err .badLength)
  else if s.recorder.state ≠ .idle then (s, .err .wrongState)
  else if recordStartOk b = false then (s, .err .badValue)
  else
    let t := { s with recorder := armRecorder b s.recorder }
    if u8At b 0 = 0 then (startCapture t, .ok (leBytes 1 RecState.recording.code))
    else (t, .ok (leBytes 1 RecState.armed.code))

/-- RECORD_STOP: closes a recording, disarms an armed one, and is refused while IDLE (07 R129; the length before the state,
log 42). -/
def recordStopOp (b : List Byte) : MsgOp := fun s =>
  if b.length ≠ 0 then (s, .err .badLength)
  else match s.recorder.state with
    | .idle => (s, .err .wrongState)
    | .armed =>
      ({ s with recorder := { s.recorder with state := .idle, trigger := none, pendingBars := none } },
        .ok (leBytes 2 (captureCount s) ++ leBytes 1 0))
    | .recording =>
      let t := closeCapture s
      (t, .ok (leBytes 2 (captureCount t) ++ leBytes 1 s.recorder.sounding.length))

/-! ## PROMOTE (07 R130) -/

/-- The roles swapped, the new CAPTURE area with the default header (07 R130). -/
def promoteMemory (m : TakeMemory) : TakeMemory :=
  let n := { m with takeIsArea0 := !m.takeIsArea0 }
  n.setCapture { n.capture with header := defaultHeader }

/-- PROMOTE: refused unless the Player is STOPPED and the recorder is IDLE (07 R130; the length before the state, log 42). -/
def promoteOp (b : List Byte) : MsgOp := fun s =>
  if b.length ≠ 0 then (s, .err .badLength)
  else if s.player.state ≠ .stopped ∨ s.recorder.state ≠ .idle then (s, .err .wrongState)
  else
    let t := forgetStartTarget { s with memory := promoteMemory s.memory }
    (t, .ok (headerBytes t.memory.take.header ++ roleBytes t.memory))

/-! ## The commands -/

/-- TAKE_HEADER_WRITE, code 0x50 (07 R117). -/
def execTakeHeaderWrite (tag : Byte) (body : List Byte) (s : State) : Result :=
  .next (completeMessage 0x50 tag (takeHeaderWriteOp body) s)

/-- TAKE_WRITE, code 0x51 (07 R118). -/
def execTakeWrite (tag : Byte) (body : List Byte) (s : State) : Result :=
  .next (completeMessage 0x51 tag (takeWriteOp body) s)

/-- CAPTURE_READ, code 0x52 (07 R119). -/
def execCaptureRead (tag : Byte) (body : List Byte) (s : State) : Result :=
  .next (completeMessage 0x52 tag (captureReadOp body) s)

/-- RECORD_START, code 0x53 (07 R121). -/
def execRecordStart (tag : Byte) (body : List Byte) (s : State) : Result :=
  .next (completeMessage 0x53 tag (recordStartOp body) s)

/-- RECORD_STOP, code 0x54 (07 R129). -/
def execRecordStop (tag : Byte) (body : List Byte) (s : State) : Result :=
  .next (completeMessage 0x54 tag (recordStopOp body) s)

/-- PROMOTE, code 0x55 (07 R130). -/
def execPromote (tag : Byte) (body : List Byte) (s : State) : Result :=
  .next (completeMessage 0x55 tag (promoteOp body) s)

/-- RECORD_CUE_START (07 R122): a recorder ARMED on the cue with the sampled cue line active starts. -/
def execRecordCueStart (s : State) : Result := .next (recorderCue true s)

/-- The admitted live NOTE_ON that RECORD_FIRST_KEY_START observes (05 R78, R87). -/
def liveNoteRecord (n : LiveNote) : EventRecord :=
  { kind := .noteOn, source := .live, stream := .a, part := n.part, key := n.key.val, value := n.velocity,
    isRepeat := n.isRepeat, offset := n.offset, age := 0 }

/-- RECORD_FIRST_KEY_START (07 R123): a recorder ARMED on the first key starts, and the NOTE_ON is appended. That the
command brings its NOTE_ON in any lock state and before frame 0, where no frame is taken (01 R5), is the model's choice (log 51). -/
def execRecordFirstKeyStart (note : LiveNote) (s : State) : Result :=
  .next (if s.recorder.state = .armed ∧ s.recorder.trigger = some .firstKey then
    captureObserve (liveNoteRecord note) s else s)

end Sys2Proof.Machine
end

