-- ==== Sys2Proof/Machine/Playback.lean ====
section
/-! DEFINITION. The Player's work (08): sections, locate, advance and release, chord gathering, part clean-up, flush and its
decision, held frames, beats and bars. The work of a frame tick is cut into pieces, `PlayerWork`, because other blocks' work may
come between two presentations (05 R80, R85). -/

namespace Sys2Proof.Machine

/-! ## Take, sections and bars -/

/-- The TAKE area the Player reads. -/
def takeArea (s : State) : Area := s.memory.take

/-- The start bar of a section (08 R138). -/
def sectionStart (sec : Section) : Nat := match sec.range with | .whole => 0 | .bars f _ => f

/-- The end bar of a section; the whole take's is the bar after the one containing its end (08 R138). -/
def sectionEnd (a : Area) (sec : Section) : Nat :=
  match sec.range with
  | .whole => endPosition a / a.header.barLen + 1
  | .bars _ l => l

/-- The limit of the pass, in 1/256 frames (08 R133). -/
def passLimit (s : State) : Nat := sectionEnd (takeArea s) s.player.active * (takeArea s).header.barLen * 256

/-- A position in 1/256 frames lies below the limit; in free play there is no limit (08 R133, R134). -/
def belowLimit (s : State) (p : Nat) : Bool := s.player.freePlay || decide (p < passLimit s)

/-- The beat length in 1/256 frames (08 R149). -/
def beatUnits (s : State) : Nat := (takeArea s).header.barLen / (takeArea s).header.beats * 256

/-- The player replaced by a function of itself. -/
def State.mapPlayer (f : Player → Player) (s : State) : State := { s with player := f s.player }

/-- The settings of part `n` (0..3). -/
def partAt (p : Player) (n : Nat) : PartSetting := p.parts.toList.getD n resetPart

/-- The settings of part `n` changed by `f`. -/
def setPart (n : Nat) (f : PartSetting → PartSetting) (p : Player) : Player :=
  if h : n < 4 then { p with parts := p.parts.set n (f p.parts[n]) h } else p

/-! ## Presentations (05 R78) -/

/-- A playback record. -/
def playbackRecord (kind : EventKind) (stream : Stream) (part key value offset : Nat) : EventRecord :=
  { kind := kind, source := .playback, stream := stream, part := part, key := key, value := value, isRepeat := false,
    offset := offset, age := 0 }

/-- The sub-frame offset "from the take record": its sub-frame at rate 256, else 0 (05 R78, 08 R134). -/
def takeOffset (s : State) (sub : Nat) : Nat := if s.player.rate = 256 then sub else 0

/-- The offset of a NOTE_OFF or DAMPER 0 that no take record carries: free at rate 256, where R78 asks for a take record's, and
0 at any other rate (05 R78; log 27). -/
def endingOffset (s : State) : Nat := takeOffset s (freeSub s)

/-- A playback NOTE_OFF of the flush or the clean-up, on the pair's stream, presented with its offset of `endingOffset`; on
admission the pair leaves the sounding set (08 R136, R137, R141). -/
def presentNoteOff (q : PlayPair) (s : State) : State × Bool :=
  let r := presentPlayback (playbackRecord .noteOff q.stream q.part q.key 0 (endingOffset s)) (s.drawn 1)
  (if r.2 then r.1.mapPlayer (fun p => { p with sounding := dropPair p.sounding q.part q.key }) else r.1, r.2)

/-- A GUIDE_OFF with offset 0 on the pair's stream; on admission the pair leaves the guide-lit set (08 R137, R141). -/
def presentGuideOff (q : PlayPair) (s : State) : State × Bool :=
  let r := presentPlayback (guideOffOf q) s
  (if r.2 then r.1.mapPlayer (fun p => { p with lit := dropPair p.lit q.part q.key }) else r.1, r.2)

/-- A DAMPER 0 of the flush on the part's stream, presented with its offset of `endingOffset`; on admission the part's last
sent damper becomes 0 (08 R141). -/
def presentDamperZero (n : Nat) (s : State) : State × Bool :=
  let r := presentPlayback (playbackRecord .damper (partAt s.player n).stream n 0 0 (endingOffset s)) (s.drawn 1)
  (if r.2 then r.1.mapPlayer (setPart n (fun q => { q with lastDamper := 0 })) else r.1, r.2)

/-! ## Locate (08 R142) -/

/-- A locate to a bar begins (08 R142). -/
def beginLocate (bar : Nat) (s : State) : State :=
  s.mapPlayer (fun p => { p with
    state := .locating, locate := some (bar, 0), gatherLimit := none, freePlay := false, flushDest := none })

/-- The locate of a PLAY_START begins: to the start target if present, else the active start bar; the start target becomes
absent (08 R143; log 22). -/
def startLocate (s : State) : State :=
  beginLocate (s.player.startTarget.getD (sectionStart s.player.active)) (forgetStartTarget s)

/-- The search examines up to `n` records from slot `i`: the first slot at or beyond the target position, the first END, or
the record count, where the search gets there (08 R142). -/
def searchFrom (a : Area) (target : Nat) : Nat → Nat → Option Nat
  | n, i =>
    if a.header.count ≤ i then some i
    else match n with
      | 0 => none
      | n + 1 =>
        if (slotAt a.slots i).kind = .endMark ∨ target ≤ positionOf a.slots i then some i
        else searchFrom a target n (i + 1)

/-- Beat 1 of a bar announced: a beat crossing with beat number 1 that is no bar crossing (08 R149). -/
def announce (s : State) : State := startClick 1 s

/-- The end of a locate (08 R142). -/
def endLocate (bar slot : Nat) (s : State) : State :=
  announce (s.mapPlayer (fun p => { p with
    state := .running, locate := none, readIdx := slot, pos := bar * (takeArea s).header.barLen * 256 }))

/-- One search step (08 R142). -/
def searchStep (s : State) : State :=
  match s.player.locate with
  | none => s
  | some (bar, idx) =>
    match searchFrom (takeArea s) (bar * (takeArea s).header.barLen) 256 idx with
    | some i => endLocate bar i s
    | none => s.mapPlayer (fun p => { p with locate := some (bar, idx + 256) })

/-! ## Stopping, applying, flushing -/

/-- The shadow copied to the active and working sections, the apply-pending flag cleared (08 R139, R140). -/
def loadShadow (p : Player) : Player := { p with active := p.shadow, working := p.shadow, applyPending := false }

/-- An apply carried out while STOPPED or ARMED: the start target becomes the new start bar (08 R139). -/
def applyStopped (p : Player) : Player := { loadShadow p with startTarget := some (sectionStart p.shadow) }

/-- Reasons of PLAYER_STOPPED, coded in the order of R144. -/
inductive StopReason
  | command | sectionEnd | takeEnd
  deriving DecidableEq, Repr

/-- Code of a reason of PLAYER_STOPPED. -/
def StopReason.code : StopReason → Nat | .command => 0 | .sectionEnd => 1 | .takeEnd => 2

/-- Entry into STOPPED: free play and the stop-at-end flag cleared, a pending apply carried out, PLAYER_STOPPED raised with
the reason and the position in frames (08 R144; low 32 bits, log 43). -/
def enterStopped (why : StopReason) (s : State) : State :=
  let stopped := fun p : Player => { p with
    state := .stopped, freePlay := false, stopAtEnd := false, flushDest := none, locate := none }
  let t := s.mapPlayer (fun p => if p.applyPending then applyStopped (stopped p) else stopped p)
  raiseNotice .playerStopped (leBytes 1 why.code ++ leBytes 4 (s.player.pos / 256)) t

/-- A flush with its destination begins: the expected set is emptied and the state is FLUSHING (08 R140, R144, R145). -/
def beginFlush (dest : FlushDest) (s : State) : State :=
  s.mapPlayer (fun p => { p with state := .flushing, flushDest := some dest, expected := [] })

/-- The next item of a flush (08 R141). -/
inductive FlushItem
  | noteOff (q : PlayPair)
  | damper (part : Nat)
  | guideOff (q : PlayPair)
  deriving DecidableEq, Repr

/-- The lowest part whose last sent damper is not 0. -/
def dampedPart (p : Player) : Option Nat := (List.range 4).find? (fun n => decide ((partAt p n).lastDamper ≠ 0))

/-- The first item that remains of a flush: NOTE_OFFs, then DAMPER 0s, then GUIDE_OFFs (08 R141). -/
def flushItem (p : Player) : Option FlushItem :=
  match p.sounding, dampedPart p, p.lit with
  | q :: _, _, _ => some (.noteOff q)
  | [], some n, _ => some (.damper n)
  | [], none, q :: _ => some (.guideOff q)
  | [], none, [] => none

/-- A flush item presented. -/
def presentFlushItem (i : FlushItem) (s : State) : State × Bool :=
  match i with
  | .noteOff q => presentNoteOff q s
  | .damper n => presentDamperZero n s
  | .guideOff q => presentGuideOff q s

/-- A pass that repeats: the working repeats decremented where above 1, a locate to the active start bar (08 R140). -/
def repeatPass (s : State) : State :=
  beginLocate (sectionStart s.player.active) (s.mapPlayer (fun p =>
    { p with working := { p.working with repeats := p.working.repeats - 1 } }))

/-- A pending apply carried out at a decision (08 R140, case 1). -/
def applyAtDecision (s : State) : State :=
  beginLocate (sectionStart s.player.shadow) (s.mapPlayer loadShadow)

/-- Free play begins at the limit, with beat 1 announced (08 R140, R149). -/
def beginFreePlay (s : State) : State :=
  announce (s.mapPlayer (fun p => { p with state := .running, freePlay := true, flushDest := none }))

/-- The decision when a flush has ended (08 R140, R144, R145). -/
def flushDecision (s : State) : State :=
  let p := s.player
  match p.flushDest with
  | some .endOfPass =>
    if p.applyPending then applyAtDecision s
    else if p.stopAtEnd then enterStopped .sectionEnd s
    else if p.working.repeats ≠ 1 then repeatPass s
    else if p.working.action = .stop then enterStopped .sectionEnd s
    else beginFreePlay s
  | some .endOfTake =>
    if p.applyPending then applyAtDecision s
    else enterStopped (if p.stopAtEnd then .sectionEnd else .takeEnd) s
  | some .stop => enterStopped .command s
  | some (.locate bar) => beginLocate bar s
  | none => s

/-! ## Moving the position (08 R133, R149; 07 R124) -/

/-- The beat multiple an advance to `q` has last reached. -/
def beatReached (s : State) (q : Nat) : Nat := q / beatUnits s * beatUnits s

/-- A beat crossing at `m`: its number to the click generator, and a bar crossing to the Mixer (08 R149). -/
def crossBeat (m : Nat) (s : State) : State :=
  let t := startClick (m / beatUnits s % (takeArea s).header.beats + 1) s
  if m % ((takeArea s).header.barLen * 256) = 0 then handCause .barCrossing t else t

/-- An advance of the position to `q`: the amount goes to the recorder, a beat crossing on the way is handed out
(08 R133, R149; 07 R124). -/
def advanceTo (q : Nat) (s : State) : State :=
  let p := s.player.pos
  let t := recorderAdvance (q - p) (s.mapPlayer (fun pl => { pl with pos := q }))
  if p < beatReached s q ∧ belowLimit s (beatReached s q) = true then crossBeat (beatReached s q) t else t

/-- A held frame: the hold counter, and LAG with the position in frames and the slot when it reaches 15 with the flag ARMED
(08 R135; the position's low 32 bits, log 43). -/
def holdFrame (slot : Nat) (s : State) : State :=
  let h := satInc 15 s.player.hold
  let t := s.mapPlayer (fun p => { p with hold := h })
  if h = 15 ∧ s.player.lag = .armed then
    raiseNotice .lag (leBytes 4 (s.player.pos / 256) ++ leBytes 2 slot) (t.mapPlayer (fun p => { p with lag := .sent }))
  else t

/-! ## The release (08 R134) -/

/-- What the release does with the record it takes. -/
inductive Handling
  | skip
  | gather
  | present (r : EventRecord)
  deriving DecidableEq, Repr

/-- At or before the gather limit. -/
def gathered (p : Player) (slot : Nat) : Bool := match p.gatherLimit with | some g => decide (slot ≤ g) | none => false

/-- The handling of a take record by kind and part mode (08 R134; log 23). -/
def handlingOf (s : State) (r : TakeRecord) : Handling :=
  let set := partAt s.player r.part
  let rec_ (kind : EventKind) (stream : Stream) : EventRecord :=
    playbackRecord kind stream r.part r.key r.value (takeOffset s r.sub)
  match r.kind, set.mode with
  | .spacer, _ => .skip
  | .endMark, _ => .skip
  | _, .mute => .skip
  | .noteOn, .play => .present (rec_ .noteOn set.stream)
  | .noteOff, .play =>
    match pairStream s.player.sounding r.part r.key with
    | some st => .present { rec_ .noteOff st with value := 0 }
    | none => .skip
  | .damper, .play => .present (rec_ .damper set.stream)
  | .sostenuto, .play => .present (rec_ .sostenuto set.stream)
  | .soft, .play => .present (rec_ .soft set.stream)
  | .noteOn, .guide =>
    if gathered s.player s.player.readIdx then .skip
    else if s.player.follow then .gather
    else .present (rec_ .guideOn set.stream)
  | .noteOff, .guide =>
    match pairStream s.player.lit r.part r.key with
    | some st => .present { rec_ .guideOff st with value := 0 }
    | none => .skip
  | .damper, .guide | .sostenuto, .guide | .soft, .guide => .skip

/-- The Player's sets and last sent damper after a record of the release has been admitted (08 R134, R136). -/
def afterRelease (r : EventRecord) (p : Player) : Player :=
  let pair : PlayPair := { part := r.part, key := r.key, stream := r.stream }
  match r.kind with
  | .noteOn => { p with sounding := insertPair pair p.sounding }
  | .noteOff => { p with sounding := dropPair p.sounding r.part r.key }
  | .guideOn => { p with lit := insertPair pair p.lit }
  | .guideOff => { p with lit := dropPair p.lit r.part r.key }
  | .damper => setPart r.part (fun q => { q with lastDamper := clampNat 0 127 r.value }) p
  | .sostenuto | .soft | .miss => p

/-- The record at the read index is taken: below the record count, before the first END, at or before the new position and
below the limit (08 R134). -/
def releasable (newPos : Nat) (s : State) : Bool :=
  let at_ := positionOf (takeArea s).slots s.player.readIdx * 256
  decide (s.player.readIdx < firstEnd (takeArea s)) && decide (at_ ≤ newPos) && belowLimit s at_

/-- The read index moved past a record. -/
def pastRecord (s : State) : State := s.mapPlayer (fun p => { p with readIdx := p.readIdx + 1 })

/-- A refused record of the release: the position becomes the record's, and the tick is a held frame (08 R135). -/
def holdRecord (s : State) : State :=
  holdFrame s.player.readIdx (advanceTo (positionOf (takeArea s).slots s.player.readIdx * 256) s)

/-! ## Gathering a chord (08 R146) -/

/-- A pair taken into a chord, with the value and sub-frame of its record. -/
structure ChordNote where
  part : Nat
  key : Nat
  value : Nat
  sub : Nat
  deriving DecidableEq, Repr

/-- A chord under way: the pairs taken, in the order taken, and the overflow count. -/
structure Chord where
  notes : List ChordNote
  overflows : Nat
  deriving DecidableEq, Repr

/-- The slots a gathering from slot `first` examines: below the record count, before the first END, within the window and
below the limit (08 R146). -/
def chordSlots (s : State) (first : Nat) : List Nat :=
  let a := takeArea s
  let p := positionOf a.slots first
  ((List.range (firstEnd a - first)).map (first + ·)).takeWhile (fun i =>
    decide (positionOf a.slots i ≤ p + s.player.window) && belowLimit s (positionOf a.slots i * 256))

/-- A record among the examined slots: a NOTE_ON of a GUIDE part joins the chord, overflows it, or is in it already
(08 R146). A pair beyond the 16 is counted at every occurrence: R146 exempts only pairs already taken, and that a pair treated as
played stays new is the model's choice (log 50). -/
def chordAdd (s : State) (c : Chord) (slot : Nat) : Chord :=
  let r := slotAt (takeArea s).slots slot
  if r.kind = .noteOn ∧ (partAt s.player r.part).mode = .guide then
    if c.notes.any (fun n => decide (n.part = r.part) && decide (n.key = r.key)) then c
    else if c.notes.length < 16 then
      { c with notes := c.notes ++ [{ part := r.part, key := r.key, value := r.value, sub := r.sub }] }
    else { c with overflows := satInc 65535 c.overflows }
  else c

/-- The chord gathered from the read index. -/
def chordOf (s : State) : Chord :=
  (chordSlots s s.player.readIdx).foldl (chordAdd s) { notes := [], overflows := s.player.overflows }

/-- A chord is gathered: the expected set, the gather limit and the overflow count; the position becomes the chord's, the
state WAITING, and the read index moves past the chord's first record (08 R146). All of this comes before the chord's GUIDE_ONs
are presented; R146 does not say when (log 46). -/
def gatherChord (s : State) : State :=
  let c := chordOf s
  let t := advanceTo (positionOf (takeArea s).slots s.player.readIdx * 256) s
  t.mapPlayer (fun p => { p with
    expected := c.notes.map (fun n => (n.part, n.key)), overflows := c.overflows
    gatherLimit := some ((chordSlots s s.player.readIdx).getLast?.getD s.player.readIdx)
    state := .waiting, hold := 0, readIdx := p.readIdx + 1 })

/-- A GUIDE_ON of a chord presented; an admitted one makes its pair lit (08 R146). -/
def presentGuideOn (n : ChordNote) (s : State) : State :=
  let r := playbackRecord .guideOn (partAt s.player n.part).stream n.part n.key n.value (takeOffset s n.sub)
  let t := presentPlayback r s
  if t.2 then t.1.mapPlayer (afterRelease r) else t.1

/-! ## Part settings and clean-up (08 R137) -/

/-- A part's pending setting applied. -/
def applyPart (q : PartSetting) : PartSetting :=
  match q.pending with
  | none => q
  | some (m, st) => { q with mode := m, stream := st, pending := none }

/-- Pending part settings applied in ascending part order (08 R137). -/
def applySettings (s : State) : State := s.mapPlayer (fun p => { p with parts := mapVec applyPart p.parts })

/-- The next item of the part clean-up: NOTE_OFFs of parts no longer PLAY, then GUIDE_OFFs of parts no longer GUIDE
(08 R137). -/
def cleanupItem (p : Player) : Option FlushItem :=
  match p.sounding.find? (fun q => decide ((partAt p q.part).mode ≠ .play)) with
  | some q => some (.noteOff q)
  | none => (p.lit.find? (fun q => decide ((partAt p q.part).mode ≠ .guide))).map .guideOff

/-- Expected entries of parts no longer GUIDE removed; a set emptied by that returns WAITING to RUNNING (08 R137). -/
def pruneExpected (s : State) : State :=
  s.mapPlayer (fun p =>
    let left := p.expected.filter (fun e => decide ((partAt p e.1).mode = .guide))
    { p with expected := left
             state := if p.state = .waiting ∧ p.expected ≠ [] ∧ left = [] then .running else p.state })

/-! ## The pieces of the Player's work (08 R132) -/

/-- A piece of the Player's work: what it does next. -/
inductive PlayerWork
  /-- Step 1 of R132: the cue line. -/
  | cue (active : Bool)
  /-- Step 2 of R132, knowing whether a locate began at this tick. -/
  | settings (began : Bool)
  /-- Step 3 of R132. -/
  | body (began : Bool)
  /-- The next item of the part clean-up. -/
  | cleanup
  /-- The advance. -/
  | advance
  /-- The release toward the new position. -/
  | release (newPos : Nat)
  /-- The GUIDE_ONs of a chord still to present. -/
  | guideOns (notes : List ChordNote)
  /-- The next item of the flush, or its decision. -/
  | flush
  /-- Nothing more at this tick. -/
  | done
  deriving DecidableEq, Repr

/-- The end of a pass: the Mixer is handed the end of pass, and a flush begins (08 R140). -/
def endPass (s : State) : State := beginFlush .endOfPass (handCause .endOfPass s)

/-- The point at which the take ends, in 1/256 frames (07 R115). -/
def takeEndUnits (s : State) : Nat := endPosition (takeArea s) * 256

/-- The end of a release with nothing held and no chord: the new position, the limit with the end of the pass, or in free
play the take's end (08 R134, R140; log 24). -/
def finishRelease (newPos : Nat) (s : State) : PlayerWork × State :=
  let t := s.mapPlayer (fun p => { p with hold := 0 })
  if s.player.freePlay then
    if firstEnd (takeArea s) ≤ s.player.readIdx ∧ takeEndUnits s ≤ newPos then
      (.flush, beginFlush .endOfTake (advanceTo (takeEndUnits s) t))
    else (.done, advanceTo newPos t)
  else if passLimit s ≤ newPos then (.flush, endPass (advanceTo (passLimit s) t))
  else (.done, advanceTo newPos t)

/-- One record of the release, or its end (08 R134, R135). -/
def releaseStep (newPos : Nat) (s : State) : PlayerWork × State :=
  if releasable newPos s then
    match handlingOf s (slotAt (takeArea s).slots s.player.readIdx) with
    | .skip => (.release newPos, pastRecord s)
    | .gather => (.guideOns (chordOf s).notes, gatherChord s)
    | .present r =>
      let t := presentPlayback r s
      if t.2 then (.release newPos, pastRecord (t.1.mapPlayer (afterRelease r))) else (.done, holdRecord t.1)
  else finishRelease newPos s

/-- One item of the part clean-up, or its end with the pruning of the expected set (08 R137); a refusal makes a held frame
(08 R135). That the pruning comes after the presentations of the tick, R137 saying only "in the same tick", is the model's choice
(log 49). -/
def cleanupStep (s : State) : PlayerWork × State :=
  match cleanupItem s.player with
  | some i =>
    let t := presentFlushItem i s
    if t.2 then (.cleanup, t.1) else (.done, pruneExpected (holdFrame (takeArea s).header.count t.1))
  | none =>
    let t := pruneExpected s
    (if t.player.state = .running then .advance else .done, t)

/-- One item of the flush, or the decision when nothing remains (08 R140, R141). -/
def flushStep (s : State) : PlayerWork × State :=
  match flushItem s.player with
  | some i =>
    let t := presentFlushItem i s
    (if t.2 then .flush else .done, t.1)
  | none => (.done, flushDecision s)

/-- Step 3 of R132. -/
def bodyStep (began : Bool) (s : State) : PlayerWork × State :=
  match s.player.state with
  | .locating => (.done, if began then s else searchStep s)
  | .waiting | .running => (.cleanup, s)
  | .flushing => (.flush, s)
  | .stopped | .armed => (.done, s)

/-- One piece of the Player's work: the state after it and what comes next (08 R132). -/
def playerStep (w : PlayerWork) (s : State) : PlayerWork × State :=
  match w with
  | .cue active =>
    if active = true ∧ s.player.state = .armed then (.settings true, startLocate s) else (.settings false, s)
  | .settings began => (.body began, applySettings s)
  | .body began => bodyStep began s
  | .cleanup => cleanupStep s
  | .advance => (.release (s.player.pos + s.player.rate), s)
  | .release newPos => releaseStep newPos s
  | .guideOns [] => (.done, s)
  | .guideOns (n :: ns) => (.guideOns ns, presentGuideOn n s)
  | .flush => flushStep s
  | .done => (.done, s)

/-- More pieces than the Player's work at one tick can have. -/
def playerFuel (s : State) : Nat :=
  2 * (takeArea s).header.count + s.player.sounding.length + s.player.lit.length + s.player.expected.length + 64

/-- The Player's work run on its own until it is done. -/
def playerRun : Nat → PlayerWork → State → State
  | 0, _, s => s
  | n + 1, w, s =>
    match w with
    | .done => s
    | w => playerRun n (playerStep w s).1 (playerStep w s).2

/-- The flush run from this moment. -/
def runFlush (s : State) : State := playerRun (playerFuel s) .flush s

end Sys2Proof.Machine
end

