-- ==== Sys2Proof/Machine/PlayerControl.lean ====
section
/-! DEFINITION. The Player's messages SECTION_WRITE, SECTION_APPLY, PLAY_START, PLAY_STOP, PLAY_LOCATE, PLAY_RATE, PART_MODE,
FOLLOW_CONFIG, METRONOME, and its events (08). -/

namespace Sys2Proof.Machine

/-- What every OK reply to a Player message begins with: the player state and the position in frames (08 R131; log 29), of
which a position beyond 4 bytes gives its low 32 bits (log 43). -/
def playerBytes (p : Player) : List Byte := leBytes 1 p.state.code ++ leBytes 4 (p.pos / 256)

/-- An OK reply to a Player message: the Player as it stands after the message, then the rule's own data (08 R131). -/
def playerOk (data : List Byte) (s : State) : State × MsgResult := (s, .ok (playerBytes s.player ++ data))

/-! ## SECTION_WRITE and SECTION_APPLY (08 R138, R139) -/

/-- A section in a reply: start bar, end bar, repeats, end action. R138 gives 0xFFFF twice for the whole take form in the body
alone; that the reply sends it so, and not bar 0 with the computed end bar, is the model's choice (log 48). -/
def sectionBytes (sec : Section) : List Byte :=
  (match sec.range with
   | .whole => leBytes 2 0xFFFF ++ leBytes 2 0xFFFF
   | .bars f l => leBytes 2 f ++ leBytes 2 l) ++
  leBytes 2 sec.repeats ++ leBytes 1 sec.action.code

/-- The section a SECTION_WRITE body carries; repeats above 255 are stored as 255 (08 R138, 11 R178). -/
def sectionOfBody (b : List Byte) : Section :=
  { range := if u16At b 0 = 0xFFFF ∧ u16At b 2 = 0xFFFF then .whole else .bars (u16At b 0) (u16At b 2)
    repeats := min 255 (u16At b 4), action := if u8At b 6 = 0 then .stop else .carryOn }

/-- The values of a SECTION_WRITE body are accepted (08 R138). -/
def sectionBodyOk (b : List Byte) : Bool :=
  (decide (u16At b 0 = 0xFFFF ∧ u16At b 2 = 0xFFFF) || decide (u16At b 0 < u16At b 2)) && decide (u8At b 6 ≤ 1)

/-- The data of a SECTION_WRITE reply: shadow, active section, working repeats, apply-pending flag (08 R138). -/
def sectionReply (p : Player) : List Byte :=
  sectionBytes p.shadow ++ sectionBytes p.active ++ leBytes 2 p.working.repeats ++ boolByte p.applyPending

/-- SECTION_WRITE: an empty body reads, 7 bytes write the shadow (08 R138). -/
def sectionWriteOp (b : List Byte) : MsgOp := fun s =>
  if b.length = 0 then playerOk (sectionReply s.player) s
  else if b.length = 7 then
    if sectionBodyOk b = false then (s, .err .badValue)
    else
      let t := s.mapPlayer (fun p => { p with shadow := sectionOfBody b })
      playerOk (sectionReply t.player) t
  else (s, .err .badLength)

/-- The effect of a SECTION_APPLY by the player state (08 R139). -/
def applySection (p : Player) : Player :=
  match p.state with
  | .stopped | .armed => applyStopped p
  | .locating | .running | .waiting | .flushing => { p with applyPending := true }

/-- SECTION_APPLY (08 R139). -/
def sectionApplyOp (b : List Byte) : MsgOp := fun s =>
  if b.length ≠ 0 then (s, .err .badLength)
  else
    let t := s.mapPlayer applySection
    playerOk (boolByte t.player.applyPending) t

/-! ## PLAY_START, PLAY_STOP, PLAY_LOCATE (08 R143, R144, R145) -/

/-- What an accepted PLAY_START clears and copies (08 R143). -/
def prepareStart (p : Player) : Player :=
  { p with
    stopAtEnd := false, lag := .armed, hold := 0, mistakes := 0, overflows := 0
    working := { p.working with repeats := p.active.repeats } }

/-- PLAY_START: 0 NOW, 1 CUE (08 R143; check order log 34). -/
def playStartOp (b : List Byte) : MsgOp := fun s =>
  if b.length ≠ 1 then (s, .err .badLength)
  else if 1 < u8At b 0 then (s, .err .badValue)
  else if s.player.state ≠ .stopped then (s, .err .wrongState)
  else
    let t := s.mapPlayer prepareStart
    playerOk [] (if u8At b 0 = 0 then startLocate t else t.mapPlayer (fun p => { p with state := .armed }))

/-- A stop NOW by the player state; a flush it begins is presented at once (08 R141, R144). -/
def stopNow (s : State) : State :=
  match s.player.state with
  | .armed | .locating => enterStopped .command s
  | .running | .waiting => runFlush (beginFlush .stop s)
  | .flushing => s.mapPlayer (fun p => { p with flushDest := some .stop })
  | .stopped => s

/-- PLAY_STOP: 0 NOW, 1 AT_SECTION_END (08 R144; check order log 34). -/
def playStopOp (b : List Byte) : MsgOp := fun s =>
  if b.length ≠ 1 then (s, .err .badLength)
  else if 1 < u8At b 0 then (s, .err .badValue)
  else if s.player.state = .stopped then (s, .err .wrongState)
  else playerOk [] (if u8At b 0 = 0 then stopNow s else s.mapPlayer (fun p => { p with stopAtEnd := true }))

/-- A locate by message, by the player state; none where it is refused (08 R145). -/
def locateNow (bar : Nat) (s : State) : Option State :=
  match s.player.state with
  | .stopped | .armed => some (s.mapPlayer (fun p => { p with startTarget := some bar }))
  | .running | .waiting => some (runFlush (beginFlush (.locate bar) s))
  | .locating => some (beginLocate bar s)
  | .flushing =>
    if s.player.flushDest = some .stop then none
    else some (s.mapPlayer (fun p => { p with flushDest := some (.locate bar) }))

/-- PLAY_LOCATE: the checks in the order length, value, state (08 R145; log 34). -/
def playLocateOp (b : List Byte) : MsgOp := fun s =>
  if b.length ≠ 2 then (s, .err .badLength)
  else if sectionEnd (takeArea s) s.player.active ≤ u16At b 0 then (s, .err .badValue)
  else match locateNow (u16At b 0) s with
    | none => (s, .err .wrongState)
    | some t => playerOk [] t

/-! ## PLAY_RATE, PART_MODE, FOLLOW_CONFIG, METRONOME (08 R133, R137, R148, R150) -/

/-- PLAY_RATE: an empty body reads, 2 bytes store the clamped rate (08 R133). -/
def playRateOp (b : List Byte) : MsgOp := fun s =>
  if b.length = 0 then playerOk (leBytes 2 s.player.rate ++ boolByte false) s
  else if b.length = 2 then
    let v := clampNat 32 512 (u16At b 0)
    playerOk (leBytes 2 v ++ boolByte (decide (v ≠ u16At b 0))) (s.mapPlayer (fun p => { p with rate := v }))
  else (s, .err .badLength)

/-- A part mode by its code (08 R137). -/
def partPlayOf (n : Nat) : PartPlay := if n = 0 then .play else if n = 1 then .mute else .guide

/-- A stream by its code (08 R137). -/
def streamOf (n : Nat) : Stream := if n = 0 then .a else .b

/-- One part in a PART_MODE reply: mode, stream, presence of a pending setting, its mode and stream (08 R137). -/
def partBytes (q : PartSetting) : List Byte :=
  leBytes 1 q.mode.code ++ leBytes 1 q.stream.code ++
    (match q.pending with
     | none => [0, 0, 0]
     | some (m, st) => 1 :: (leBytes 1 m.code ++ leBytes 1 st.code))

/-- The four parts in a PART_MODE reply. -/
def partsReply (p : Player) : List Byte := p.parts.toList.flatMap partBytes

/-- PART_MODE: an empty body reads, 3 bytes store a pending setting (08 R137). -/
def partModeOp (b : List Byte) : MsgOp := fun s =>
  if b.length = 0 then playerOk (partsReply s.player) s
  else if b.length = 3 then
    if 3 < u8At b 0 ∨ 2 < u8At b 1 ∨ 1 < u8At b 2 then (s, .err .badValue)
    else
      let pend := some (partPlayOf (u8At b 1), streamOf (u8At b 2))
      let t := s.mapPlayer (setPart (u8At b 0) (fun q => { q with pending := pend }))
      playerOk (partsReply t.player) t
  else (s, .err .badLength)

/-- The data of a FOLLOW_CONFIG reply (08 R148; log 30). -/
def followReply (p : Player) (clamped : Bool) : List Byte :=
  boolByte p.follow ++ leBytes 2 p.window ++ boolByte clamped ++ leBytes 2 p.mistakes ++ leBytes 2 p.overflows ++
    p.expected.flatMap (fun e => leBytes 1 e.1 ++ leBytes 1 e.2)

/-- The follow settings stored; turning follow off while WAITING empties the expected set and returns to RUNNING
(08 R148). -/
def setFollow (turnedOn : Bool) (window : Nat) (p : Player) : Player :=
  let q := { p with follow := turnedOn, window := window }
  if turnedOn = false ∧ p.state = .waiting then { q with expected := [], state := .running } else q

/-- FOLLOW_CONFIG: an empty body reads, 3 bytes write (08 R148). -/
def followConfigOp (b : List Byte) : MsgOp := fun s =>
  if b.length = 0 then playerOk (followReply s.player false) s
  else if b.length = 3 then
    if 1 < u8At b 0 then (s, .err .badValue)
    else
      let t := s.mapPlayer (setFollow (decide (u8At b 0 = 1)) (clampNat 0 800 (u16At b 1)))
      playerOk (followReply t.player (decide (800 < u16At b 1))) t
  else (s, .err .badLength)

/-- The data of a METRONOME reply (08 R150). -/
def metronomeReply (p : Player) (clamped : Bool) : List Byte :=
  boolByte p.metronome ++ leBytes 3 p.clickLevel ++ boolByte clamped

/-- The metronome settings stored; turning the switch off cuts a click under way at the end of this frame (08 R150). -/
def setMetronome (turnedOn : Bool) (level : Nat) (s : State) : State :=
  let t := s.mapPlayer (fun p => { p with metronome := turnedOn, clickLevel := level })
  { t with mixer := { t.mixer with click :=
    if turnedOn then t.mixer.click else t.mixer.click.map (fun c => { c with cut := true }) } }

/-- METRONOME: an empty body reads, 4 bytes write (08 R150). -/
def metronomeOp (b : List Byte) : MsgOp := fun s =>
  if b.length = 0 then playerOk (metronomeReply s.player false) s
  else if b.length = 4 then
    if 1 < u8At b 0 then (s, .err .badValue)
    else
      let t := setMetronome (decide (u8At b 0 = 1)) (clampNat 0 1048575 (u24At b 1)) s
      playerOk (metronomeReply t.player (decide (1048575 < u24At b 1))) t
  else (s, .err .badLength)

/-! ## The message commands -/

/-- SECTION_WRITE, code 0x60 (08 R138). -/
def execSectionWrite (tag : Byte) (body : List Byte) (s : State) : Result :=
  .next (completeMessage 0x60 tag (sectionWriteOp body) s)

/-- SECTION_APPLY, code 0x61 (08 R139). -/
def execSectionApply (tag : Byte) (body : List Byte) (s : State) : Result :=
  .next (completeMessage 0x61 tag (sectionApplyOp body) s)

/-- PLAY_START, code 0x62 (08 R143). -/
def execPlayStart (tag : Byte) (body : List Byte) (s : State) : Result :=
  .next (completeMessage 0x62 tag (playStartOp body) s)

/-- PLAY_STOP, code 0x63 (08 R144). -/
def execPlayStop (tag : Byte) (body : List Byte) (s : State) : Result :=
  .next (completeMessage 0x63 tag (playStopOp body) s)

/-- PLAY_LOCATE, code 0x64 (08 R145). -/
def execPlayLocate (tag : Byte) (body : List Byte) (s : State) : Result :=
  .next (completeMessage 0x64 tag (playLocateOp body) s)

/-- PLAY_RATE, code 0x65 (08 R133). -/
def execPlayRate (tag : Byte) (body : List Byte) (s : State) : Result :=
  .next (completeMessage 0x65 tag (playRateOp body) s)

/-- PART_MODE, code 0x66 (08 R137). -/
def execPartMode (tag : Byte) (body : List Byte) (s : State) : Result :=
  .next (completeMessage 0x66 tag (partModeOp body) s)

/-- FOLLOW_CONFIG, code 0x67 (08 R148). -/
def execFollowConfig (tag : Byte) (body : List Byte) (s : State) : Result :=
  .next (completeMessage 0x67 tag (followConfigOp body) s)

/-- METRONOME, code 0x68 (08 R150). -/
def execMetronome (tag : Byte) (body : List Byte) (s : State) : Result :=
  .next (completeMessage 0x68 tag (metronomeOp body) s)

/-! ## The events -/

/-- PLAY_CUE_START (08 R143): an ARMED Player with the sampled cue line active begins its locate. -/
def execPlayCueStart (s : State) : Result := .next (playerStep (.cue true) s).2

/-- LOCATE_END (08 R142): due where this search step ends the locate. -/
def execLocateEnd (s : State) : Result :=
  .next (if s.player.state = .locating ∧ (searchStep s).player.state = .running then searchStep s else s)

/-- The release has come to its end at `newPos` in a pass that reaches its limit. -/
def passEnds (newPos : Nat) (s : State) : Bool :=
  decide (s.player.state = .running) && !s.player.freePlay && !releasable newPos s && decide (passLimit s ≤ newPos)

/-- The release has come to the take's end in free play. -/
def takeEnds (newPos : Nat) (s : State) : Bool :=
  decide (s.player.state = .running) && s.player.freePlay && !releasable newPos s &&
    decide (firstEnd (takeArea s) ≤ s.player.readIdx) && decide (takeEndUnits s ≤ newPos)

/-- END_OF_PASS (08 R140): due where the advance of a tick, with no record left to release, reaches the limit; the position
stays at the limit, AT_SECTION goes to the Mixer, and the flush is presented. -/
def execEndOfPass (s : State) : Result :=
  let newPos := s.player.pos + s.player.rate
  .next (if passEnds newPos s then runFlush (finishRelease newPos s).2 else s)

/-- END_OF_TAKE (08 R140): due where the advance of a tick in free play reaches the take's end. -/
def execEndOfTake (s : State) : Result :=
  let newPos := s.player.pos + s.player.rate
  .next (if takeEnds newPos s then runFlush (finishRelease newPos s).2 else s)

/-- FLUSH_END (08 R140): due where the flush ends now; the items that remain and the decision. -/
def execFlushEnd (s : State) : Result :=
  .next (if s.player.state = .flushing ∧ (runFlush s).player.state ≠ .flushing then runFlush s else s)

/-- HELD_RECORD_RETRY (08 R135): due while RUNNING after a held frame with nothing left to clean up; the held record is
presented again and the release goes on. -/
def execHeldRecordRetry (s : State) : Result :=
  .next (if s.player.state = .running ∧ 0 < s.player.hold ∧ cleanupItem s.player = none then
    playerRun (playerFuel s) .advance s else s)

/-- The part clean-up run on its own, up to the advance that follows it (08 R137). -/
def runCleanup : Nat → State → State
  | 0, s => s
  | n + 1, s =>
    match (cleanupStep s).1 with
    | .cleanup => runCleanup n (cleanupStep s).2
    | _ => (cleanupStep s).2

/-- PART_CLEANUP (08 R137): due in WAITING and RUNNING; where nothing remains to present and no expected entry to remove, the
clean-up changes nothing. -/
def execPartCleanup (s : State) : Result :=
  .next (if s.player.state = .waiting ∨ s.player.state = .running then runCleanup (playerFuel s) s else s)

/-- LAG (08 R135): due where the Player's work of this tick is a held frame that brings the hold counter to 15 with the flag
ARMED. -/
def execLag (s : State) : Result :=
  let t := playerRun (playerFuel s) (.body false) s
  .next (if s.player.lag = .armed ∧ t.player.lag = .sent then t else s)

end Sys2Proof.Machine
end

