-- ==== Sys2Proof/Machine/Links.lean ====
section
/-! DEFINITION. The Scan Receiver (01 R1 to R6) and the Message Unit (10): verdicts, the segment assembler, dispatch, the
upstream segment; STATUS, IDENTIFY, RESET, SCAN_FRAME, DOWNSTREAM_FRAME and the link, key and pedal events. -/

namespace Sys2Proof.Machine

/-! ## Scan Receiver (01 R1, R3, R4) -/

/-- The scan receiver replaced by a function of itself. -/
def State.mapScan (f : ScanReceiver → ScanReceiver) (s : State) : State := { s with scan := f s.scan }

/-- The message unit replaced by a function of itself. -/
def State.mapMsg (f : MessageUnit → MessageUnit) (s : State) : State := { s with msg := f s.msg }

/-- The number SCAN_LOCKED carries: frames between the last taken frame and this one, excluding both, at most 65535; 0 when
none has been taken (01 R4). -/
def framesBetween (last : Option FrameNo) (now : FrameNo) : Nat :=
  match last with
  | none => 0
  | some l => min 65535 ((now - l).toNat - 1)

/-- A BAD verdict loses the lock: it is the sixteenth in a row (01 R4). -/
def losesLock (r : ScanReceiver) : Bool := decide (r.lock = .locked) && decide (16 ≤ r.badRun + 1)

/-- The Scan Receiver with its verdict settled BAD (01 R4). -/
def settledBad (r : ScanReceiver) : ScanReceiver :=
  let n := { r with verdict := some .bad, errors := satInc 65535 r.errors }
  match r.lock with
  | .locked =>
    if losesLock r then { n with lock := .unlocked, badRun := 0, goodRun := 0 } else { n with badRun := r.badRun + 1 }
  | .unlocked => { n with goodRun := 0 }

/-- SCAN_LOST raised, with the last taken frame, 0 where none was taken (01 R4). -/
def raiseScanLost (s : State) : State :=
  raiseNotice .scanLost (leBytes 4 (match s.scan.lastTaken with | some f => f.toNat | none => 0)) s

/-- A scan verdict settled BAD (01 R4). -/
def settleScanBad (s : State) : State :=
  let t := s.mapScan settledBad
  if losesLock s.scan then raiseScanLost t else t

/-- The verdict of the frame before is still PENDING at a frame tick, and settling it BAD loses the lock (01 R3, R4). -/
def lostAtTick (r : ScanReceiver) : Bool := decide (r.verdict = some .pending) && losesLock r

/-- The Scan Receiver at a frame tick, the frame number already advanced: a verdict still PENDING is settled BAD, the new
frame's verdict is opened and the frame timing is sent (01 R1, R3). The notice of a lock lost here is a piece of work of its own
(`lostAtTick`, `raiseScanLost`), since it meets the notices of other blocks in either order (10 R173). -/
def scanTick (s : State) : State :=
  let t := if s.scan.verdict = some .pending then s.mapScan settledBad else s
  t.mapScan (fun r => { r with verdict := some .pending, timing := some (t.clock.frame.setWidth 16) })

/-! ## Main-link verdicts (10 R167, R168) -/

/-- A message under assembly discarded because the link goes DOWN (10 R170). -/
def dropAssembly (m : MessageUnit) : MessageUnit :=
  match m.assembler with
  | .idle => m
  | .assembling _ _ => { m with assembler := .idle, framingErrors := satInc 65535 m.framingErrors }
  | .discarding => { m with assembler := .idle }

/-- A downstream verdict settled BAD (10 R167, R168). -/
def settleLinkBad (s : State) : State :=
  s.mapMsg (fun m =>
    let n := { m with verdict := some .bad, linkErrors := satInc 65535 m.linkErrors }
    match m.link with
    | .up =>
      if 80 ≤ m.badRun + 1 then dropAssembly { n with link := .down, badRun := 0, goodRun := 0, outage := 80 }
      else { n with badRun := m.badRun + 1 }
    | .down => { n with goodRun := 0, outage := satInc 65535 m.outage })

/-- A downstream verdict settled GOOD (10 R168). -/
def settleLinkGood (s : State) : State :=
  match s.msg.link with
  | .up => s.mapMsg (fun m => { m with verdict := some .good, badRun := 0 })
  | .down =>
    if 8 ≤ s.msg.goodRun + 1 then
      raiseNotice .linkRestored (leBytes 2 s.msg.outage)
        (s.mapMsg (fun m => { m with verdict := some .good, link := .up, badRun := 0, goodRun := 0 }))
    else s.mapMsg (fun m => { m with
      verdict := some .good, goodRun := m.goodRun + 1, outage := satInc 65535 m.outage })

/-- The main-link receiver at a frame tick: a verdict still PENDING is settled BAD and the new one is opened (10 R167). -/
def linkTick (s : State) : State :=
  (if s.msg.verdict = some .pending then settleLinkBad s else s).mapMsg (fun m => { m with verdict := some .pending })

/-! ## Messages of the Message Unit (10 R174 to R176) -/

/-- The data of a STATUS reply (10 R174). -/
def statusBytes (s : State) : List Byte :=
  leBytes 4 s.clock.frame.toNat ++ leBytes 2 s.msg.linkErrors ++ leBytes 2 s.msg.framingErrors ++
    leBytes 2 s.msg.discarded ++ leBytes 1 s.msg.replies.length ++ leBytes 1 s.msg.notices.length ++
    leBytes 2 s.msg.noticeDrops ++ leBytes 1 s.scan.lock.code ++ leBytes 2 s.scan.errors ++
    leBytes 1 s.queue.records.length ++ leBytes 1 s.queue.playbackCount ++ leBytes 2 s.queue.drops ++
    leBytes 2 s.queue.refusals ++ leBytes 1 s.queue.overrun.code ++ boolByte s.store.saving ++
    leBytes 1 s.store.source.code ++ boolByte s.cal.running ++ leBytes 1 s.cal.faultList.length ++
    boolByte s.cal.overflow ++ leBytes 1 s.rail.state.code ++ leBytes 1 s.player.state.code ++
    leBytes 1 s.recorder.state.code ++ leBytes 2 s.mixer.saturation

/-- STATUS: reports, and clears the notice drop counter (10 R174). -/
def statusOp (b : List Byte) : MsgOp := fun s =>
  if b.length ≠ 0 then (s, .err .badLength)
  else (s.mapMsg (fun m => { m with noticeDrops := 0 }), .ok (statusBytes s))

/-- IDENTIFY: vendor code, part code, silicon revision (10 R175; log 28). -/
def identifyOp (b : List Byte) : MsgOp := fun s =>
  if b.length ≠ 0 then (s, .err .badLength)
  else (s, .ok (leBytes 2 0x05C1 ++ leBytes 2 0x0880 ++ [Config.siliconRevision]))

/-- RESET: the reset-pending indication is set (10 R176). -/
def resetOp (b : List Byte) : MsgOp := fun s =>
  if b.length ≠ 0 then (s, .err .badLength)
  else (s.mapMsg (fun m => { m with resetPending := true }), .ok [])

/-! ## Dispatch (10 R171) -/

/-- The message of a code, with its owner's execution; none for a code that names no message (11 R180). -/
def messageOp (code : Nat) : Option (List Byte → MsgOp) :=
  match code with
  | 0x10 => some keyCalWriteOp
  | 0x11 => some keyCalReadOp
  | 0x12 => some keyStateReadOp
  | 0x13 => some curveWriteOp
  | 0x14 => some curveReadOp
  | 0x15 => some trackConfigOp
  | 0x18 => some pedalCalWriteOp
  | 0x19 => some pedalCalReadOp
  | 0x20 => some calibrateRestOp
  | 0x21 => some faultListReadOp
  | 0x22 => some faultClearOp
  | 0x23 => some nvSaveOp
  | 0x24 => some nvRestoreOp
  | 0x30 => some railMoveOp
  | 0x31 => some railConfigOp
  | 0x32 => some railStatusOp
  | 0x33 => some railMonitorOp
  | 0x40 => some mixModeOp
  | 0x41 => some mixBalanceOp
  | 0x42 => some gainTableWriteOp
  | 0x43 => some gainTableReadOp
  | 0x44 => some volumeSetOp
  | 0x45 => some mixStatusOp
  | 0x50 => some takeHeaderWriteOp
  | 0x51 => some takeWriteOp
  | 0x52 => some captureReadOp
  | 0x53 => some recordStartOp
  | 0x54 => some recordStopOp
  | 0x55 => some promoteOp
  | 0x60 => some sectionWriteOp
  | 0x61 => some sectionApplyOp
  | 0x62 => some playStartOp
  | 0x63 => some playStopOp
  | 0x64 => some playLocateOp
  | 0x65 => some playRateOp
  | 0x66 => some partModeOp
  | 0x67 => some followConfigOp
  | 0x68 => some metronomeOp
  | 0x70 => some statusOp
  | 0x71 => some identifyOp
  | 0x72 => some resetOp
  | _ => none

/-- The execution of a message whose code names none: ERROR(UNKNOWN_CODE) (10 R171). -/
def unknownOp : MsgOp := fun s => (s, .err .unknownCode)

/-- A completed message handled (10 R171). -/
def dispatch (code tag : Byte) (body : List Byte) (s : State) : State :=
  completeMessage code tag ((messageOp code.toNat).elim unknownOp (fun op => op body)) s

/-! ## Scan frames (01 R2, R4, R5) -/

/-- A CURVE_WRITE that is still storing right before the sample of key `n`: the entries it has come to by then. Only a write
that will be executed stores any (02 R32, R33; 10 R171). -/
def midCurve (m : MidMessage) (n : Nat) (s : State) : State :=
  if m.code = 0x13 ∧ windowOpen s = true ∧ 3 ≤ m.body.length ∧ m.body.length ≤ 234 then
    curvePart m.body (m.stored.getD n 0) s
  else s

/-- What a message that completes among the samples of a scan frame does right before the sample of key `n` (02 R33, R39;
04 R76). -/
def midStep (mid : Option MidMessage) (n : Nat) (s : State) : State :=
  match mid with
  | none => s
  | some m =>
    if n = m.before.val then dispatch m.code m.tag m.body s
    else if n < m.before.val then midCurve m n s
    else s

/-- The samples of a scan frame taken: Key Tracker, sets, Pedal Unit, then the scan-frame evaluation of the interlock
(01 R5, 06 R97). -/
def takeSamples (words : List ScanWord) (mid : Option MidMessage) (s : State) : State :=
  railScanEval (pedalSamples words (recomputeSets (keySamples (midStep mid) words
    (s.mapScan (fun r => { r with lastTaken := some s.clock.frame })))))

/-- A scan verdict settled GOOD by the frame that carries `words` (01 R4). -/
def settleScanGood (words : List ScanWord) (mid : Option MidMessage) (s : State) : State :=
  match s.scan.lock with
  | .locked => takeSamples words mid (s.mapScan (fun r => { r with verdict := some .good, badRun := 0 }))
  | .unlocked =>
    if 4 ≤ s.scan.goodRun + 1 then
      let t := s.mapScan (fun r => { r with verdict := some .good, lock := .locked, badRun := 0, goodRun := 0 })
      takeSamples words mid (raiseNotice .scanLocked (leBytes 2 (framesBetween s.scan.lastTaken s.clock.frame)) t)
    else s.mapScan (fun r => { r with verdict := some .good, goodRun := r.goodRun + 1 })

/-- What the checks of R2 make of an arriving scan frame while the verdict is PENDING. -/
inductive ScanCheck
  | bad | stale | good
  deriving DecidableEq, Repr

/-- The checks of R2: length, CRC, status word against the low 16 bits of the frame number (01 R2). -/
def scanCheck (words : List ScanWord) (frame : FrameNo) : ScanCheck :=
  if words.length ≠ 93 then .bad
  else if crcOf words ≠ words.getD 92 0 then .bad
  else if words.getD 91 0 ≠ frame.setWidth 16 then .stale
  else .good

/-- The scan error counter incremented. -/
def countScanError (s : State) : State := s.mapScan (fun r => { r with errors := satInc 65535 r.errors })

/-- A complete scan frame arrives (01 R2). Before the first frame tick no verdict is open and the frame is discarded
(log 11). A frame whose samples are not taken has no message among them (log 3). -/
def receiveScan (words : List ScanWord) (mid : Option MidMessage) (s : State) : State :=
  match s.scan.verdict with
  | none => s
  | some .good | some .bad => countScanError s
  | some .pending =>
    match scanCheck words s.clock.frame with
    | .bad => settleScanBad s
    | .stale => countScanError s
    | .good => settleScanGood words mid s

/-! ## The assembler (10 R169, R170) -/

/-- A message refused by the assembler: counted, and answered by an ERROR reply unless a soft reset is pending or the reply
queue is full (10 R170; log 32). -/
def refuseMessage (bytes : List Byte) (code : ErrorCode) (s : State) : State :=
  let t := s.mapMsg (fun m => { m with framingErrors := satInc 65535 m.framingErrors })
  if windowOpen t then appendReply (bytes.getD 0 0) (bytes.getD 1 0) (.err code) t else t

/-- The number of content segments a message needs (10 R169). -/
def segmentsNeeded (bytes : List Byte) : Nat := (4 + u16At bytes 2 + 14) / 15

/-- A message that completes with `n` content segments: dispatched where that is its number, else refused with BAD_LENGTH;
the assembler becomes IDLE (10 R169, R170). -/
def finishMessage (n : Nat) (bytes : List Byte) (s : State) : State :=
  let t := s.mapMsg (fun m => { m with assembler := .idle })
  if n = segmentsNeeded bytes then dispatch (bytes.getD 0 0) (bytes.getD 1 0) ((bytes.drop 4).take (u16At bytes 2)) t
  else refuseMessage bytes .badLength t

/-- A stray segment: the assembler becomes DISCARDING (10 R169). -/
def straySegment (s : State) : State :=
  s.mapMsg (fun m => { m with assembler := .discarding, framingErrors := satInc 65535 m.framingErrors })

/-- A segment that begins a message: a partial one is refused with FRAMING, then this one is taken (10 R169, R170). -/
def beginMessage (isLast : Bool) (payload : List Byte) (s : State) : State :=
  let t := match s.msg.assembler with
    | .assembling _ bytes => refuseMessage bytes .framing s
    | .idle | .discarding => s
  if isLast then finishMessage 1 payload t else t.mapMsg (fun m => { m with assembler := .assembling 1 payload })

/-- A continuation or LAST segment (10 R169, R170). -/
def continueMessage (isLast : Bool) (payload : List Byte) (s : State) : State :=
  match s.msg.assembler with
  | .idle => straySegment s
  | .discarding => s
  | .assembling n bytes =>
    if isLast then finishMessage (n + 1) (bytes ++ payload) s
    else if 16 ≤ n + 1 then
      refuseMessage bytes .badLength (s.mapMsg (fun m => { m with assembler := .discarding }))
    else s.mapMsg (fun m => { m with assembler := .assembling (n + 1) (bytes ++ payload) })

/-- A segment handed to the assembler: control byte and payload (10 R169). -/
def takeSegment (segment : List Byte) (s : State) : State :=
  let ctl := segment.getD 0 0
  if ctlIdle ctl then s
  else if ctlFirst ctl then beginMessage (ctlLast ctl) (segment.drop 1) s
  else continueMessage (ctlLast ctl) (segment.drop 1) s

/-- A well-formed downstream frame accepted: verdict GOOD, audio held, and while the link is UP its segment assembled
(10 R167, R168). -/
def acceptDownstream (frame : List Byte) (s : State) : State :=
  let t := (settleLinkGood s).mapMsg (fun m => { m with audio := some (toneOf frame) })
  if t.msg.link = .up then takeSegment (segmentOf frame) t else t

/-- A complete downstream frame arrives (10 R167). Before the first frame tick it is discarded without a verdict
(10 R176; log 11). -/
def receiveDownstream (frame : List Byte) (s : State) : State :=
  match s.msg.verdict with
  | none => s
  | some .good | some .bad => s.mapMsg (fun m => { m with linkErrors := satInc 65535 m.linkErrors })
  | some .pending => if downstreamWellFormed frame then acceptDownstream frame s else settleLinkBad s

/-! ## The upstream frame (10 R166, R172; 11 R179, R180) -/

/-- The bytes of a reply: header and data (11 R180). -/
def replyBytes (r : Reply) : List Byte :=
  match r.result with
  | .ok data => [r.code, r.tag] ++ leBytes 1 0 ++ leBytes 1 data.length ++ data
  | .err c => [r.code, r.tag] ++ leBytes 1 1 ++ leBytes 1 1 ++ leBytes 1 c.code

/-- The number of segments a reply occupies (10 R171). -/
def replySegments (r : Reply) : Nat := ((replyBytes r).length + 14) / 15

/-- The control byte of segment `i` of `k`: FIRST on the first, LAST on the last (11 R179). Bits 4 to 7 of an upstream control byte
are stated nowhere and are sent as 0 (log 44). -/
def segmentControl (i k : Nat) : Byte :=
  BitVec.ofNat 8 ((if i = 0 then 1 else 0) + (if i + 1 = k then 2 else 0))

/-- A control byte and its payload, filled up to 15 bytes with free bytes (log 25). -/
def paddedSegment (ctl : Byte) (payload : List Byte) (s : State) : List Byte :=
  ctl :: (payload ++ freeBytes s (15 - payload.length))

/-- The payload of a notice: kind, frame number of raising, data length, data (11 R180). -/
def noticeBytes (n : Notice) : List Byte :=
  leBytes 1 n.kind.code ++ leBytes 4 n.frame.toNat ++ leBytes 1 n.data.length ++ n.data

/-- Whether a reply is the OK reply of RESET (10 R176; log 36). -/
def isResetReply (r : Reply) : Bool :=
  decide (r.code = 0x72) && (match r.result with | .ok _ => true | .err _ => false)

/-- The payload of the next segment of a reply. -/
def replyPayload (r : Reply) : List Byte := ((replyBytes r).drop (15 * r.sent)).take 15

/-- The reply queue after the head's next segment has been sent (10 R172); `resetDue` is set with the last segment of a
RESET's OK reply (10 R176). -/
def sendReply (r : Reply) (rest : List Reply) (m : MessageUnit) : MessageUnit :=
  if replySegments r ≤ r.sent + 1 then
    { m with replies := rest, resetDue := m.resetDue || (m.resetPending && isResetReply r) }
  else { m with replies := { r with sent := r.sent + 1 } :: rest }

/-- The upstream segment of a frame tick and the state after it: the head reply's next segment, else the oldest notice, else
an IDLE segment (10 R172). The control byte of a notice is 0x0B and that of an IDLE segment 0x04, bits 4 to 7 being 0
(11 R179; log 44). -/
def chooseSegment (s : State) : List Byte × State :=
  match s.msg.replies, s.msg.notices with
  | r :: rest, _ =>
    (paddedSegment (segmentControl r.sent (replySegments r)) (replyPayload r) s,
      (s.mapMsg (sendReply r rest)).drawn (15 - (replyPayload r).length))
  | [], n :: ns =>
    (paddedSegment 0x0B#8 (noticeBytes n) s,
      (s.mapMsg (fun m => { m with notices := ns })).drawn (15 - (noticeBytes n).length))
  | [], [] => (paddedSegment 0x04#8 [] s, s.drawn 15)

/-- The 72 bytes of an upstream frame (10 R166, 11 R179). -/
def upstreamBytes (segment : List Byte) (s : State) : List Byte :=
  [0x3C#8, 0xA5#8] ++ leBytes 4 s.clock.frame.toNat ++
    leBytes 2 (statusField s.rail.state s.player.state s.scan.lock (decide (s.recorder.state = .recording))
      (!s.msg.notices.isEmpty)) ++
    slotBytes s.queue.slots ++ segment

/-- The upstream frame of a tick formed and sent (10 R166). The segment is chosen and the frame formed in one piece: that no notice
of the tick falls between the two is the model's choice, R166 leaving it open (log 47). -/
def sendUpstream (s : State) : State :=
  let c := chooseSegment s
  c.2.mapMsg (fun m => { m with upstream := upstreamBytes c.1 c.2 })

/-! ## The commands -/

/-- SCAN_FRAME (01 R2). -/
def execScanFrame (arrival : ScanArrival) (s : State) : Result := .next (receiveScan arrival.words arrival.mid s)

/-- DOWNSTREAM_FRAME (10 R167). -/
def execDownstreamFrame (bytes : List Byte) (s : State) : Result := .next (receiveDownstream bytes s)

/-- STATUS, code 0x70 (10 R174). -/
def execStatus (tag : Byte) (body : List Byte) (s : State) : Result :=
  .next (completeMessage 0x70 tag (statusOp body) s)

/-- IDENTIFY, code 0x71 (10 R175). -/
def execIdentify (tag : Byte) (body : List Byte) (s : State) : Result :=
  .next (completeMessage 0x71 tag (identifyOp body) s)

/-- RESET, code 0x72 (10 R176). -/
def execReset (tag : Byte) (body : List Byte) (s : State) : Result :=
  .next (completeMessage 0x72 tag (resetOp body) s)

/-- SCAN_LOST (01 R4): due in LOCKED with a bad-frame run of 15 while the verdict is open; the BAD verdict. -/
def execScanLost (s : State) : Result :=
  .next (if s.scan.lock = .locked ∧ s.scan.badRun = 15 ∧ s.scan.verdict = some .pending then settleScanBad s else s)

/-- SCAN_LOCKED (01 R4): due in UNLOCKED with a good-frame run of 3 while the verdict is open, for a frame that passes the
checks. -/
def execScanLocked (arrival : ScanArrival) (s : State) : Result :=
  .next (if s.scan.lock = .unlocked ∧ s.scan.goodRun = 3 ∧ s.scan.verdict = some .pending ∧
      scanCheck arrival.words s.clock.frame = .good then settleScanGood arrival.words arrival.mid s else s)

/-- LINK_DOWN (10 R168): due while UP with a bad-frame run of 79 and the verdict open; the BAD verdict. -/
def execLinkDown (s : State) : Result :=
  .next (if s.msg.link = .up ∧ s.msg.badRun = 79 ∧ s.msg.verdict = some .pending then settleLinkBad s else s)

/-- LINK_RESTORED (10 R168): due while DOWN with a good-frame run of 7 and the verdict open, for a well-formed frame. -/
def execLinkRestored (bytes : List Byte) (s : State) : Result :=
  .next (if s.msg.link = .down ∧ s.msg.goodRun = 7 ∧ s.msg.verdict = some .pending ∧
      downstreamWellFormed bytes = true then acceptDownstream bytes s else s)

/-- KEY_FAULT (04 R68): due for a fault sample of an enabled key not in FAULT whose fault run is 63; the sample, then the sets
and the evaluation that follow a taken frame (log 17). That the command handles its sample in any lock state and before frame 0,
where no frame is taken (01 R5), is the model's choice (log 51). -/
def execKeyFault (k : KeyIdx) (raw : Nat) (s : State) : Result :=
  .next (if (s.key k).cal.enabled = true ∧ (s.key k).motion ≠ .fault ∧ (s.key k).faultRun = 63 ∧ isFaultRaw raw = true then
    railScanEval (recomputeSets (keySample k raw s)) else s)

/-- FLIGHT_TIMER_EXPIRY (01 R22): due where the key's flight timer is 1; it reaches 0 and the sets are recomputed. -/
def execFlightTimerExpiry (k : KeyIdx) (s : State) : Result :=
  .next (if (s.key k).flight = 1 then recomputeSets (s.setKey k { s.key k with flight := 0 }) else s)

/-- NOTE_OFF_RETRY (01 R20): the NOTE_OFF of every OWED key is attempted again, in ascending key order. -/
def execNoteOffRetry (s : State) : Result := .next (retryAllOwed s)

/-- PEDAL_INTERVAL_EXPIRY (03 R47): due where the pedal's interval timer is 1; it reaches 0 and the pedal is considered. -/
def execPedalIntervalExpiry (p : PedalIdx) (s : State) : Result :=
  .next (if (s.pedal p).interval = 1 then considerPedal p (s.setPedal p { s.pedal p with interval := 0 }) else s)

/-- PEDAL_EVENT_RETRY (03 R48): a due pedal with its interval timer at 0 is attempted again. -/
def execPedalEventRetry (p : PedalIdx) (s : State) : Result :=
  .next (if pedalDue (s.pedal p) = true ∧ (s.pedal p).interval = 0 then attemptPedal p s else s)

end Sys2Proof.Machine
end

