-- ==== Sys2Proof/Machine/Resets.lean ====
section
/-! DEFINITION. The pin reset and the soft reset (00 section 4.8; 10 R176, R177). -/

namespace Sys2Proof.Machine

/-- A pin reset: every block at its pin-reset values, the Settings Store restored (10 R177; 04 R75). The free counter and the
waiting commands are the model's own. -/
def pinReset (sw : Switches) (s : State) : State := State.afterPinReset sw s.store s.free s.pending

/-- The reset tick of a soft reset: every block at its soft-reset values, the Settings Store restored, the event memory kept
as R114 tables it, the main link UP (10 R176, R177). -/
def softReset (sw : Switches) (s : State) : State :=
  { pinReset sw s with
    memory := softResetMemory s.memory
    msg := resetMsg .up }

/-! ## The commands -/

/-- PIN_RESET (10 R177). -/
def execPinReset (sw : Switches) (s : State) : Result := .next (pinReset sw s)

/-- SOFT_RESET (10 R176): due at the tick after the one at which the last segment of the RESET reply was sent; else nothing
(log 13). -/
def execSoftReset (sw : Switches) (s : State) : Result :=
  .next (if s.msg.resetDue then softReset sw s else s)

end Sys2Proof.Machine
end

