-- ==== Sys2Proof/Machine/Tick.lean ====
section
/-! DEFINITION. The frame tick (00 section 4.4; 10 R166). The blocks' works at a tick reach shared items in orders that the spec
leaves open (05 R80, R85; 08 R132; 09 R153; 10 R166). Each block's own works stand in a thread that keeps the order its rules
give; the operand `choices` of FRAME_TICK says which thread goes on next (log 4). -/

namespace Sys2Proof.Machine

/-- A piece of one block's work at a frame tick. -/
inductive Work
  /-- The scan verdict settled and opened (01 R1, R3). -/
  | scan
  /-- SCAN_LOST of a lock lost at the tick (01 R4; 10 R173). -/
  | scanLost
  /-- The downstream verdict settled and opened (10 R167). -/
  | link
  /-- Flight timers, flight set and deep count (01 R22, R23). -/
  | keyTimers
  /-- The NOTE_OFF of an OWED key retried (01 R20). -/
  | owed (k : KeyIdx)
  /-- The drain of the Event Queue (05 R84). -/
  | drain
  /-- The pedals' interval timers (03 R47). -/
  | pedalTimers
  /-- A pedal considered (03 R47). -/
  | pedal (p : PedalIdx)
  /-- The Settings Store's save (04 R74). -/
  | store (done readBackMatches : Bool)
  /-- The calibration job (04 R67). -/
  | calJob
  /-- The Rail Controller's work as far as it needs no evaluation of the interlock (06 R101). -/
  | railSwitches (sw : Switches)
  /-- The Rail Controller's work (06 R101). -/
  | rail (sw : Switches)
  /-- The tick evaluation of the interlock alone, after work that needed none (06 R97; log 19). -/
  | railEvaluate
  /-- The recorder's CUE start (07 R122). -/
  | recorderCue (cue : Bool)
  /-- The recorder's SPACERs (07 R126). -/
  | spacers
  /-- A piece of the Player's work (08 R132). -/
  | player (w : PlayerWork)
  /-- Step 1 of the Mixer (09 R153). -/
  | tone
  /-- Step 2 of the Mixer. -/
  | mixMode
  /-- Step 3 of the Mixer. -/
  | mixTrigger
  /-- Step 4 of the Mixer. -/
  | fade
  /-- Step 5 of the Mixer. -/
  | gateGain
  /-- Step 6 of the Mixer. -/
  | volume
  /-- Step 7 of the Mixer. -/
  | weights
  /-- The six sample periods (09 R163). -/
  | samples
  /-- The upstream frame (10 R166). -/
  | upstream
  deriving DecidableEq, Repr

/-- The mixer replaced by a function of itself. -/
def State.mapMixer (f : Mixer → Mixer) (s : State) : State := { s with mixer := f s.mixer }

/-- A piece of work done, and the piece that takes its place in its thread, if any. -/
def runWork (w : Work) (s : State) : Option Work × State :=
  match w with
  | .scan => (if lostAtTick s.scan then some .scanLost else none, scanTick s)
  | .scanLost => (none, raiseScanLost s)
  | .link => (none, linkTick s)
  | .keyTimers => (none, flightTick s)
  | .owed k => (none, retryOwed k s)
  | .drain => (none, { s with queue := drainQueue s.queue })
  | .pedalTimers => (none, pedalTimers s)
  | .pedal p => (none, considerPedal p s)
  | .store done readBackMatches => (none, storeTick done readBackMatches s)
  | .calJob => (none, calJobTick s)
  | .railSwitches sw =>
    match railEarlyEvent sw s with
    | none => (some (.rail sw), s)
    | some ev => (if ev = .conflict then none else some .railEvaluate, railEarly ev sw s)
  | .rail sw => (none, railTick sw s)
  | .railEvaluate => (none, evaluate s)
  | .recorderCue cue => (none, recorderCue cue s)
  | .spacers => (none, recorderSpacers s)
  | .player p =>
    let t := playerStep p s
    (if t.1 = .done then none else some (.player t.1), t.2)
  | .tone => (none, mixInput s)
  | .mixMode => (none, s.mapMixer mixApplyMode)
  | .mixTrigger => (none, handCause .step3 s)
  | .fade => (none, s.mapMixer fadeStep)
  | .gateGain => (none, s.mapMixer gateStep)
  | .volume => (none, s.mapMixer volumeStep)
  | .weights => (none, s.mapMixer mixWeights)
  | .samples => (none, s.mapMixer formSamples)
  | .upstream => (none, sendUpstream s)

/-- The works of one block that remain at a tick, in order. -/
abbrev Thread := List Work

/-- The Player's work. -/
def Work.isPlayer : Work → Bool
  | .player _ => true
  | _ => false

/-- Whether a work may run while `left` still remain: the rail's tick evaluation follows the recomputation of the sets and the
settlement of the scan verdict (06 R97), but not the notice of a lock lost there (10 R173); the samples follow the Player, whose
beat crossing starts a click in this frame (08 R150); the upstream frame follows the drain that fills its slots (10 R166). -/
def Work.ready (left : List Work) : Work → Bool
  | .rail _ | .railEvaluate => !left.contains .scan && !left.contains .keyTimers
  | .samples => !left.any Work.isPlayer
  | .upstream => !left.contains .drain
  | _ => true

/-- The threads of a tick. -/
def threadsOf (inp : TickInputs) (s : State) : List Thread :=
  [[.scan], [.link], [.keyTimers], [.store inp.storeDone inp.storeMatches], [.calJob], [.drain],
   (allKeys.filter (fun k => decide ((s.key k).note = .owed))).map .owed,
   [.pedalTimers, .pedal 0, .pedal 1, .pedal 2],
   [.railSwitches inp.sw], [.recorderCue inp.cue], [.player (.cue inp.cue)], [.spacers],
   [.tone, .mixMode, .mixTrigger, .fade, .gateGain, .volume, .weights, .samples], [.upstream]]

/-- The threads whose next work may run now, by their places. -/
def readyThreads (ts : List Thread) : List Nat :=
  (List.range ts.length).filter (fun i =>
    match ts.getD i [] with
    | [] => false
    | w :: _ => w.ready ts.flatten)

/-- The place picked among the ready ones by a choice. -/
def pick (ready : List Nat) (choice : Nat) : Nat := ready.getD (choice % ready.length) 0

/-- A thread after its next work has been done. -/
def advanceThread (next : Option Work) (t : Thread) : Thread :=
  match next with
  | none => t.tail
  | some w => w :: t.tail

/-- The works of the tick run one after another until none remains, each next one by a choice; with no choice left, the first
ready one. -/
def runThreads : Nat → List Nat → List Thread → State → State
  | 0, _, _, s => s
  | n + 1, choices, ts, s =>
    let i := pick (readyThreads ts) (choices.headD 0)
    match ts.getD i [] with
    | [] => s
    | w :: _ =>
      let r := runWork w s
      runThreads n choices.tail (ts.set i (advanceThread r.1 (ts.getD i []))) r.2

/-- The number of the next frame: 0 at the first frame tick after a reset, else one more (10 R177). -/
def tickClock (c : Clock) : Clock := { frame := if c.started then c.frame + 1 else 0, started := true }

/-- More works than a tick can have: those of the threads, the second pieces of the scan's and the rail's, and the Player's. -/
def tickFuel (inp : TickInputs) (s : State) : Nat := (threadsOf inp s).flatten.length + 2 + playerFuel s

/-- The state at a frame tick once its clock has advanced. -/
def State.ticked (s : State) : State := { s with clock := tickClock s.clock }

/-- A frame tick that is not the reset tick. -/
def runTick (inp : TickInputs) (s : State) : State :=
  runThreads (tickFuel inp s.ticked) inp.choices (threadsOf inp s.ticked) s.ticked

/-- FRAME_TICK (10 R166): every block's work and one upstream frame. The tick after the one at which the RESET reply has been
sent is the reset tick instead (10 R176; log 12). -/
def execFrameTick (inp : TickInputs) (s : State) : Result :=
  .next (if s.msg.resetDue then softReset inp.sw s else runTick inp s)

end Sys2Proof.Machine
end

