-- ==== Sys2Proof/Machine/Dispatch.lean ====
section
/-! DEFINITION. The dispatch of a command to its meaning: one arm per command of the table. -/

namespace Sys2Proof.Machine

/-- The effect of a command on everything but the queue of waiting commands. -/
def exec (i : Instr) (s : State) : Host.Outcome State Fault Refusal :=
  match i with
  | .pinReset sw => Sys2Proof.Machine.execPinReset sw s
  | .softReset sw => Sys2Proof.Machine.execSoftReset sw s
  | .frameTick inp => Sys2Proof.Machine.execFrameTick inp s
  | .scanFrame arrival => Sys2Proof.Machine.execScanFrame arrival s
  | .downstreamFrame bytes => Sys2Proof.Machine.execDownstreamFrame bytes s
  | .keyCalWrite tag body => Sys2Proof.Machine.execKeyCalWrite tag body s
  | .keyCalRead tag body => Sys2Proof.Machine.execKeyCalRead tag body s
  | .keyStateRead tag body => Sys2Proof.Machine.execKeyStateRead tag body s
  | .curveWrite tag body => Sys2Proof.Machine.execCurveWrite tag body s
  | .curveRead tag body => Sys2Proof.Machine.execCurveRead tag body s
  | .trackConfig tag body => Sys2Proof.Machine.execTrackConfig tag body s
  | .pedalCalWrite tag body => Sys2Proof.Machine.execPedalCalWrite tag body s
  | .pedalCalRead tag body => Sys2Proof.Machine.execPedalCalRead tag body s
  | .calibrateRest tag body => Sys2Proof.Machine.execCalibrateRest tag body s
  | .faultListRead tag body => Sys2Proof.Machine.execFaultListRead tag body s
  | .faultClear tag body => Sys2Proof.Machine.execFaultClear tag body s
  | .nvSave tag body => Sys2Proof.Machine.execNvSave tag body s
  | .nvRestore tag body => Sys2Proof.Machine.execNvRestore tag body s
  | .railMove tag body => Sys2Proof.Machine.execRailMove tag body s
  | .railConfig tag body => Sys2Proof.Machine.execRailConfig tag body s
  | .railStatus tag body => Sys2Proof.Machine.execRailStatus tag body s
  | .railMonitor tag body => Sys2Proof.Machine.execRailMonitor tag body s
  | .mixMode tag body => Sys2Proof.Machine.execMixMode tag body s
  | .mixBalance tag body => Sys2Proof.Machine.execMixBalance tag body s
  | .gainTableWrite tag body => Sys2Proof.Machine.execGainTableWrite tag body s
  | .gainTableRead tag body => Sys2Proof.Machine.execGainTableRead tag body s
  | .volumeSet tag body => Sys2Proof.Machine.execVolumeSet tag body s
  | .mixStatus tag body => Sys2Proof.Machine.execMixStatus tag body s
  | .takeHeaderWrite tag body => Sys2Proof.Machine.execTakeHeaderWrite tag body s
  | .takeWrite tag body => Sys2Proof.Machine.execTakeWrite tag body s
  | .captureRead tag body => Sys2Proof.Machine.execCaptureRead tag body s
  | .recordStart tag body => Sys2Proof.Machine.execRecordStart tag body s
  | .recordStop tag body => Sys2Proof.Machine.execRecordStop tag body s
  | .promote tag body => Sys2Proof.Machine.execPromote tag body s
  | .sectionWrite tag body => Sys2Proof.Machine.execSectionWrite tag body s
  | .sectionApply tag body => Sys2Proof.Machine.execSectionApply tag body s
  | .playStart tag body => Sys2Proof.Machine.execPlayStart tag body s
  | .playStop tag body => Sys2Proof.Machine.execPlayStop tag body s
  | .playLocate tag body => Sys2Proof.Machine.execPlayLocate tag body s
  | .playRate tag body => Sys2Proof.Machine.execPlayRate tag body s
  | .partMode tag body => Sys2Proof.Machine.execPartMode tag body s
  | .followConfig tag body => Sys2Proof.Machine.execFollowConfig tag body s
  | .metronome tag body => Sys2Proof.Machine.execMetronome tag body s
  | .status tag body => Sys2Proof.Machine.execStatus tag body s
  | .identify tag body => Sys2Proof.Machine.execIdentify tag body s
  | .reset tag body => Sys2Proof.Machine.execReset tag body s
  | .scanLost => Sys2Proof.Machine.execScanLost s
  | .scanLocked arrival => Sys2Proof.Machine.execScanLocked arrival s
  | .linkDown => Sys2Proof.Machine.execLinkDown s
  | .linkRestored bytes => Sys2Proof.Machine.execLinkRestored bytes s
  | .keyFault k raw => Sys2Proof.Machine.execKeyFault k raw s
  | .restStep k raw => Sys2Proof.Machine.execRestStep k raw s
  | .calKeyComplete k raw => Sys2Proof.Machine.execCalKeyComplete k raw s
  | .calJobTimeout => Sys2Proof.Machine.execCalJobTimeout s
  | .nvDone readBackMatches => Sys2Proof.Machine.execNvDone readBackMatches s
  | .flightTimerExpiry k => Sys2Proof.Machine.execFlightTimerExpiry k s
  | .pedalIntervalExpiry p => Sys2Proof.Machine.execPedalIntervalExpiry p s
  | .noteOffRetry => Sys2Proof.Machine.execNoteOffRetry s
  | .pedalEventRetry p => Sys2Proof.Machine.execPedalEventRetry p s
  | .clearTimeout sw => Sys2Proof.Machine.execClearTimeout sw s
  | .railStart sw => Sys2Proof.Machine.execRailStart sw s
  | .railResume sw => Sys2Proof.Machine.execRailResume sw s
  | .railBlocked sw => Sys2Proof.Machine.execRailBlocked sw s
  | .railStall sw => Sys2Proof.Machine.execRailStall sw s
  | .railArrival sw => Sys2Proof.Machine.execRailArrival sw s
  | .railDisplaced sw => Sys2Proof.Machine.execRailDisplaced sw s
  | .switchConflict => Sys2Proof.Machine.execSwitchConflict s
  | .recordCueStart => Sys2Proof.Machine.execRecordCueStart s
  | .recordFirstKeyStart note => Sys2Proof.Machine.execRecordFirstKeyStart note s
  | .playCueStart => Sys2Proof.Machine.execPlayCueStart s
  | .locateEnd => Sys2Proof.Machine.execLocateEnd s
  | .endOfPass => Sys2Proof.Machine.execEndOfPass s
  | .endOfTake => Sys2Proof.Machine.execEndOfTake s
  | .flushEnd => Sys2Proof.Machine.execFlushEnd s
  | .heldRecordRetry => Sys2Proof.Machine.execHeldRecordRetry s
  | .partCleanup => Sys2Proof.Machine.execPartCleanup s
  | .lag => Sys2Proof.Machine.execLag s
  | .balanceTrigger cause => Sys2Proof.Machine.execBalanceTrigger cause s
  | .fadeEnd => Sys2Proof.Machine.execFadeEnd s
  | .clickEnd => Sys2Proof.Machine.execClickEnd s

end Sys2Proof.Machine
end

