-- ==== Sys2Proof/WellFormed.lean ====
section
/-! DEFINITION. Well-formed commands: the operands a command of the table can carry. -/

namespace Sys2Proof

/-- A message body has 0..236 bytes (10 R169). -/
def bodyOk (body : List Byte) : Bool := decide (body.length ≤ 236)

/-- A message among the samples of a scan frame, where there is one, has such a body. -/
def midOk (mid : Option MidMessage) : Bool := match mid with | none => true | some m => bodyOk m.body

/-- A raw value that is a fault sample: 0 or 4095 (01 R9). -/
def faultRawOk (raw : Nat) : Bool := raw == 0 || raw == 4095

/-- A raw value that is a good sample: 1..4094 (01 R9). -/
def goodRawOk (raw : Nat) : Bool := decide (1 ≤ raw) && decide (raw ≤ 4094)

/-- An admitted live NOTE_ON's fields are in range: velocity 1..127, offset 0..15, part 0 or 1 (05 R78, 01 R24). -/
def liveNoteOk (n : LiveNote) : Bool :=
  decide (1 ≤ n.velocity) && decide (n.velocity ≤ 127) && decide (n.offset ≤ 15) && decide (n.part ≤ 1)

/-- A command is well formed. -/
def wellFormed (i : Instr) : Bool :=
  match i with
  | .pinReset _ => true
  | .softReset _ => true
  | .frameTick _ => true
  | .scanFrame arrival => midOk arrival.mid
  | .downstreamFrame _ => true
  | .keyCalWrite _ body => bodyOk body
  | .keyCalRead _ body => bodyOk body
  | .keyStateRead _ body => bodyOk body
  | .curveWrite _ body => bodyOk body
  | .curveRead _ body => bodyOk body
  | .trackConfig _ body => bodyOk body
  | .pedalCalWrite _ body => bodyOk body
  | .pedalCalRead _ body => bodyOk body
  | .calibrateRest _ body => bodyOk body
  | .faultListRead _ body => bodyOk body
  | .faultClear _ body => bodyOk body
  | .nvSave _ body => bodyOk body
  | .nvRestore _ body => bodyOk body
  | .railMove _ body => bodyOk body
  | .railConfig _ body => bodyOk body
  | .railStatus _ body => bodyOk body
  | .railMonitor _ body => bodyOk body
  | .mixMode _ body => bodyOk body
  | .mixBalance _ body => bodyOk body
  | .gainTableWrite _ body => bodyOk body
  | .gainTableRead _ body => bodyOk body
  | .volumeSet _ body => bodyOk body
  | .mixStatus _ body => bodyOk body
  | .takeHeaderWrite _ body => bodyOk body
  | .takeWrite _ body => bodyOk body
  | .captureRead _ body => bodyOk body
  | .recordStart _ body => bodyOk body
  | .recordStop _ body => bodyOk body
  | .promote _ body => bodyOk body
  | .sectionWrite _ body => bodyOk body
  | .sectionApply _ body => bodyOk body
  | .playStart _ body => bodyOk body
  | .playStop _ body => bodyOk body
  | .playLocate _ body => bodyOk body
  | .playRate _ body => bodyOk body
  | .partMode _ body => bodyOk body
  | .followConfig _ body => bodyOk body
  | .metronome _ body => bodyOk body
  | .status _ body => bodyOk body
  | .identify _ body => bodyOk body
  | .reset _ body => bodyOk body
  | .scanLost => true
  | .scanLocked arrival => midOk arrival.mid
  | .linkDown => true
  | .linkRestored _ => true
  | .keyFault _ raw => faultRawOk raw
  | .restStep _ raw => goodRawOk raw
  | .calKeyComplete _ raw => goodRawOk raw
  | .calJobTimeout => true
  | .nvDone _ => true
  | .flightTimerExpiry _ => true
  | .pedalIntervalExpiry _ => true
  | .noteOffRetry => true
  | .pedalEventRetry _ => true
  | .clearTimeout _ => true
  | .railStart _ => true
  | .railResume _ => true
  | .railBlocked _ => true
  | .railStall _ => true
  | .railArrival _ => true
  | .railDisplaced _ => true
  | .switchConflict => true
  | .recordCueStart => true
  | .recordFirstKeyStart note => liveNoteOk note
  | .playCueStart => true
  | .locateEnd => true
  | .endOfPass => true
  | .endOfTake => true
  | .flushEnd => true
  | .heldRecordRetry => true
  | .partCleanup => true
  | .lag => true
  | .balanceTrigger _ => true
  | .fadeEnd => true
  | .clickEnd => true

end Sys2Proof
end

