-- ==== Sys2Proof/Laws/PerInstr.lean ====
section
/-! SUPPORT. The family MessageCode: the bytes of a well-formed message command spell that command (11 R180). One lemma per
constructor of Instr. -/

namespace Sys2Proof.Laws.MessageCode

/-- The bytes of a well-formed message spell it; a command that is no message has no bytes (11 R180). -/
def Statement (i : Instr) : Prop :=
  wellFormed i = true → ∀ bytes, messageBytes i = some bytes → messageOfBytes bytes = some i

/-- The two length bytes of a body of at most 236 bytes give its length. -/
theorem length_bytes {n : Nat} (h : n ≤ 236) :
    (BitVec.ofNat 8 n).toNat + 256 * (BitVec.ofNat 8 (n / 256)).toNat = n := by
  simp only [BitVec.toNat_ofNat]; omega

/-- A message command whose code names it. -/
theorem ofBody {i : Instr} {code tag : Byte} {body : List Byte} (hp : messageParts i = some (code, tag, body))
    (hw : wellFormed i = bodyOk body) (hc : messageOfCode code.toNat tag body = some i) : Statement i := by
  intro h bytes hb
  rw [hw] at h
  have hl : body.length ≤ 236 := by simpa [bodyOk] using h
  simp only [messageBytes, hp, Option.map_some, Option.some.injEq] at hb
  subst hb
  simp only [messageOfBytes, length_bytes hl, if_true, hc]

/-- A command that is no message. -/
theorem ofNone {i : Instr} (hp : messageParts i = none) : Statement i := by
  intro _ bytes hb
  simp [messageBytes, hp] at hb

theorem pinReset (sw : Switches) : Statement (.pinReset sw) := ofNone rfl
theorem softReset (sw : Switches) : Statement (.softReset sw) := ofNone rfl
theorem frameTick (inp : TickInputs) : Statement (.frameTick inp) := ofNone rfl
theorem scanFrame (arrival : ScanArrival) : Statement (.scanFrame arrival) := ofNone rfl
theorem downstreamFrame (bytes : List Byte) : Statement (.downstreamFrame bytes) := ofNone rfl
theorem keyCalWrite (tag : Byte) (body : List Byte) : Statement (.keyCalWrite tag body) := ofBody rfl rfl rfl
theorem keyCalRead (tag : Byte) (body : List Byte) : Statement (.keyCalRead tag body) := ofBody rfl rfl rfl
theorem keyStateRead (tag : Byte) (body : List Byte) : Statement (.keyStateRead tag body) := ofBody rfl rfl rfl
theorem curveWrite (tag : Byte) (body : List Byte) : Statement (.curveWrite tag body) := ofBody rfl rfl rfl
theorem curveRead (tag : Byte) (body : List Byte) : Statement (.curveRead tag body) := ofBody rfl rfl rfl
theorem trackConfig (tag : Byte) (body : List Byte) : Statement (.trackConfig tag body) := ofBody rfl rfl rfl
theorem pedalCalWrite (tag : Byte) (body : List Byte) : Statement (.pedalCalWrite tag body) := ofBody rfl rfl rfl
theorem pedalCalRead (tag : Byte) (body : List Byte) : Statement (.pedalCalRead tag body) := ofBody rfl rfl rfl
theorem calibrateRest (tag : Byte) (body : List Byte) : Statement (.calibrateRest tag body) := ofBody rfl rfl rfl
theorem faultListRead (tag : Byte) (body : List Byte) : Statement (.faultListRead tag body) := ofBody rfl rfl rfl
theorem faultClear (tag : Byte) (body : List Byte) : Statement (.faultClear tag body) := ofBody rfl rfl rfl
theorem nvSave (tag : Byte) (body : List Byte) : Statement (.nvSave tag body) := ofBody rfl rfl rfl
theorem nvRestore (tag : Byte) (body : List Byte) : Statement (.nvRestore tag body) := ofBody rfl rfl rfl
theorem railMove (tag : Byte) (body : List Byte) : Statement (.railMove tag body) := ofBody rfl rfl rfl
theorem railConfig (tag : Byte) (body : List Byte) : Statement (.railConfig tag body) := ofBody rfl rfl rfl
theorem railStatus (tag : Byte) (body : List Byte) : Statement (.railStatus tag body) := ofBody rfl rfl rfl
theorem railMonitor (tag : Byte) (body : List Byte) : Statement (.railMonitor tag body) := ofBody rfl rfl rfl
theorem mixMode (tag : Byte) (body : List Byte) : Statement (.mixMode tag body) := ofBody rfl rfl rfl
theorem mixBalance (tag : Byte) (body : List Byte) : Statement (.mixBalance tag body) := ofBody rfl rfl rfl
theorem gainTableWrite (tag : Byte) (body : List Byte) : Statement (.gainTableWrite tag body) := ofBody rfl rfl rfl
theorem gainTableRead (tag : Byte) (body : List Byte) : Statement (.gainTableRead tag body) := ofBody rfl rfl rfl
theorem volumeSet (tag : Byte) (body : List Byte) : Statement (.volumeSet tag body) := ofBody rfl rfl rfl
theorem mixStatus (tag : Byte) (body : List Byte) : Statement (.mixStatus tag body) := ofBody rfl rfl rfl
theorem takeHeaderWrite (tag : Byte) (body : List Byte) : Statement (.takeHeaderWrite tag body) := ofBody rfl rfl rfl
theorem takeWrite (tag : Byte) (body : List Byte) : Statement (.takeWrite tag body) := ofBody rfl rfl rfl
theorem captureRead (tag : Byte) (body : List Byte) : Statement (.captureRead tag body) := ofBody rfl rfl rfl
theorem recordStart (tag : Byte) (body : List Byte) : Statement (.recordStart tag body) := ofBody rfl rfl rfl
theorem recordStop (tag : Byte) (body : List Byte) : Statement (.recordStop tag body) := ofBody rfl rfl rfl
theorem promote (tag : Byte) (body : List Byte) : Statement (.promote tag body) := ofBody rfl rfl rfl
theorem sectionWrite (tag : Byte) (body : List Byte) : Statement (.sectionWrite tag body) := ofBody rfl rfl rfl
theorem sectionApply (tag : Byte) (body : List Byte) : Statement (.sectionApply tag body) := ofBody rfl rfl rfl
theorem playStart (tag : Byte) (body : List Byte) : Statement (.playStart tag body) := ofBody rfl rfl rfl
theorem playStop (tag : Byte) (body : List Byte) : Statement (.playStop tag body) := ofBody rfl rfl rfl
theorem playLocate (tag : Byte) (body : List Byte) : Statement (.playLocate tag body) := ofBody rfl rfl rfl
theorem playRate (tag : Byte) (body : List Byte) : Statement (.playRate tag body) := ofBody rfl rfl rfl
theorem partMode (tag : Byte) (body : List Byte) : Statement (.partMode tag body) := ofBody rfl rfl rfl
theorem followConfig (tag : Byte) (body : List Byte) : Statement (.followConfig tag body) := ofBody rfl rfl rfl
theorem metronome (tag : Byte) (body : List Byte) : Statement (.metronome tag body) := ofBody rfl rfl rfl
theorem status (tag : Byte) (body : List Byte) : Statement (.status tag body) := ofBody rfl rfl rfl
theorem identify (tag : Byte) (body : List Byte) : Statement (.identify tag body) := ofBody rfl rfl rfl
theorem reset (tag : Byte) (body : List Byte) : Statement (.reset tag body) := ofBody rfl rfl rfl
theorem scanLost : Statement .scanLost := ofNone rfl
theorem scanLocked (arrival : ScanArrival) : Statement (.scanLocked arrival) := ofNone rfl
theorem linkDown : Statement .linkDown := ofNone rfl
theorem linkRestored (bytes : List Byte) : Statement (.linkRestored bytes) := ofNone rfl
theorem keyFault (k : KeyIdx) (raw : Nat) : Statement (.keyFault k raw) := ofNone rfl
theorem restStep (k : KeyIdx) (raw : Nat) : Statement (.restStep k raw) := ofNone rfl
theorem calKeyComplete (k : KeyIdx) (raw : Nat) : Statement (.calKeyComplete k raw) := ofNone rfl
theorem calJobTimeout : Statement .calJobTimeout := ofNone rfl
theorem nvDone (readBackMatches : Bool) : Statement (.nvDone readBackMatches) := ofNone rfl
theorem flightTimerExpiry (k : KeyIdx) : Statement (.flightTimerExpiry k) := ofNone rfl
theorem pedalIntervalExpiry (p : PedalIdx) : Statement (.pedalIntervalExpiry p) := ofNone rfl
theorem noteOffRetry : Statement .noteOffRetry := ofNone rfl
theorem pedalEventRetry (p : PedalIdx) : Statement (.pedalEventRetry p) := ofNone rfl
theorem clearTimeout (sw : Switches) : Statement (.clearTimeout sw) := ofNone rfl
theorem railStart (sw : Switches) : Statement (.railStart sw) := ofNone rfl
theorem railResume (sw : Switches) : Statement (.railResume sw) := ofNone rfl
theorem railBlocked (sw : Switches) : Statement (.railBlocked sw) := ofNone rfl
theorem railStall (sw : Switches) : Statement (.railStall sw) := ofNone rfl
theorem railArrival (sw : Switches) : Statement (.railArrival sw) := ofNone rfl
theorem railDisplaced (sw : Switches) : Statement (.railDisplaced sw) := ofNone rfl
theorem switchConflict : Statement .switchConflict := ofNone rfl
theorem recordCueStart : Statement .recordCueStart := ofNone rfl
theorem recordFirstKeyStart (note : LiveNote) : Statement (.recordFirstKeyStart note) := ofNone rfl
theorem playCueStart : Statement .playCueStart := ofNone rfl
theorem locateEnd : Statement .locateEnd := ofNone rfl
theorem endOfPass : Statement .endOfPass := ofNone rfl
theorem endOfTake : Statement .endOfTake := ofNone rfl
theorem flushEnd : Statement .flushEnd := ofNone rfl
theorem heldRecordRetry : Statement .heldRecordRetry := ofNone rfl
theorem partCleanup : Statement .partCleanup := ofNone rfl
theorem lag : Statement .lag := ofNone rfl
theorem balanceTrigger (cause : BalanceCause) : Statement (.balanceTrigger cause) := ofNone rfl
theorem fadeEnd : Statement .fadeEnd := ofNone rfl
theorem clickEnd : Statement .clickEnd := ofNone rfl

end Sys2Proof.Laws.MessageCode
end

