-- ==== Sys2Proof/Safety.lean ====
section
/-! DEFINITION. What a run of the ULW880 keeps: the bounds and agreements that the numbered rules state for every moment. -/

namespace Sys2Proof.Machine

/-- The Event Queue never holds more than 96 records, and the playback-sourced ones never number more than 64 (05 R82). -/
def queueBounded (s : State) : Prop := s.queue.records.length ≤ 96 ∧ s.queue.playbackCount ≤ 64

/-- The Notice Queue holds at most 10 notices and the reply queue at most 4 replies (10 R173). -/
def linkQueuesBounded (s : State) : Prop := s.msg.notices.length ≤ 10 ∧ s.msg.replies.length ≤ 4

/-- A balance target within 0..32768. -/
def targetOk (t : Nat) : Prop := t ≤ 32768

/-- The balance, and the targets it may be moved to, stay within 0..32768 (09 R158). -/
def balanceBounded (s : State) : Prop :=
  s.mixer.bal ≤ 32768 ∧ (∀ f, s.mixer.fade = some f → targetOk f.target) ∧
    (∀ p, s.mixer.pendingBal = some p → targetOk p.target)

/-- A sample within 24 bits. -/
def sampleOk (h : Int) : Prop := -8388608 ≤ h ∧ h ≤ 8388607

/-- Every headphone output sample lies within −8,388,608..8,388,607 (09 R164). -/
def samplesBounded (s : State) : Prop := ∀ p ∈ s.mixer.headphone, sampleOk p.1 ∧ sampleOk p.2

/-- The live gate stands as the rail state, origin and monitor flag put it, and the Mixer holds it as handed (06 R111). -/
def gateAgrees (s : State) : Prop :=
  s.rail.gate = gateOf s.rail.state s.rail.origin s.rail.monitor ∧ s.mixer.gate = s.rail.gate

/-- The Fault List holds at most 8 keys, none twice and each in FAULT, an unlisted FAULT key has set the overflow flag, and a FAULT
key is IDLE or OWED, with no flight timer, in neither the flight set nor the sostenuto set (04 R68, R69; 01 R21). -/
def faultListKept (s : State) : Prop :=
  s.cal.faultList.length ≤ 8 ∧ s.cal.faultList.Nodup ∧ (∀ k ∈ s.cal.faultList, (s.key k).motion = .fault) ∧
    ∀ k : KeyIdx, (s.key k).motion = .fault →
      (k ∉ s.cal.faultList → s.cal.overflow = true) ∧ ((s.key k).note = .idle ∨ (s.key k).note = .owed) ∧
      (s.key k).flight = 0 ∧ (s.key k).member = false ∧ k ∉ s.tracker.flightSet

/-- The order of the Player's pairs: part, then key (08 R131, R136). -/
abbrev pairBefore (a b : PlayPair) : Prop := a.part < b.part ∨ (a.part = b.part ∧ a.key < b.key)

/-- A set of pairs in strictly ascending order, so that it holds at most one of each part and key (08 R131). -/
def pairsAscending (l : List PlayPair) : Prop := l.Pairwise pairBefore

/-- The Player's sets: nothing sounds and nothing is lit while it is STOPPED, ARMED or LOCATING (08 R131, R136); the expected set
holds at most 16 entries, and any only while it is WAITING (08 R147); the playback sounding set and the guide-lit set are held in
ascending order (08 R131). -/
def playerSetsKept (s : State) : Prop :=
  (s.player.state = .stopped ∨ s.player.state = .armed ∨ s.player.state = .locating →
      s.player.sounding = [] ∧ s.player.lit = []) ∧
    s.player.expected.length ≤ 16 ∧ (s.player.expected ≠ [] → s.player.state = .waiting) ∧
    pairsAscending s.player.sounding ∧ pairsAscending s.player.lit

/-- The rail driver drives only while the rail is ENGAGING or RELEASING with the latest interlock evaluation satisfied, which it is
exactly where its four conditions are (06 R92, R97). -/
def driverGuarded (s : State) : Prop :=
  (s.rail.driver = .driveIn ∨ s.rail.driver = .driveOut →
      (s.rail.state = .engaging ∨ s.rail.state = .releasing) ∧ s.rail.eval.satisfied = true) ∧
    (s.rail.eval.satisfied = true ↔
      s.rail.eval.flightSize = 0 ∧ s.rail.eval.deep = 0 ∧ s.rail.eval.lock = .locked ∧ s.rail.eval.overflow = false)

/-- The counters that later rules read stay in their ranges: the refusal and drop counters (05 R77), the hold counter (08 R131),
and a message under assembly of 1 to 15 segments of 15 bytes each (10 R169, R170). -/
def countersKept (s : State) : Prop :=
  s.queue.refusals ≤ 65535 ∧ s.queue.drops ≤ 65535 ∧ s.player.hold ≤ 15 ∧
    ∀ n bytes, s.msg.assembler = .assembling n bytes → 1 ≤ n ∧ n ≤ 15 ∧ bytes.length = 15 * n

/-- What every command keeps. -/
structure Inv (s : State) : Prop where
  queue : queueBounded s
  links : linkQueuesBounded s
  memory : Memory.wf s.memory = true
  balance : balanceBounded s
  samples : samplesBounded s
  gate : gateAgrees s
  faults : faultListKept s
  sets : playerSetsKept s
  driver : driverGuarded s
  counters : countersKept s

/-- A safe run of `n` steps: none of them stops. -/
def runsSafely : Nat → State → Prop
  | 0, _ => True
  | n + 1, s => ∃ t, step s = .next t ∧ runsSafely n t

end Sys2Proof.Machine
end

