-- ==== Sys2Proof/Certificates/Slice0/Obligations.lean ====
section
/-! DEFINITION. The statements about this model: the numbered rules of spec/, said of `exec` and of the operations it calls. -/

open Sys2Proof Sys2Proof.Machine

/-! ## The queue of commands, resets, the frame tick -/

/-- The step of a block: the command at the front of the queue, run on the state with the queue's rest; with no command waiting
the block idles (the model's choice, log 2). -/
def Obligations.StepRunsFrontCommand : Prop :=
  (∀ (c : Instr) (rest : List Instr) (s : State), s.pending = c :: rest → step s = exec c { s with pending := rest }) ∧
  (∀ s : State, s.pending = [] → step s = .next s)

/-- Every command of the table completes from every state, and leaves the other waiting commands alone (95: each step whole
and indivisible). The model's choices in it: the queue of waiting commands (log 2), and that an event, or a SOFT_RESET, which is
not due completes and changes nothing (logs 1 and 13). -/
def Obligations.EveryCommandCompletes : Prop :=
  ∀ (c : Instr) (s : State), ∃ t, exec c s = .next t ∧ t.pending = s.pending

/-- State.reset holds, item by item, the values the spec tables for a pin reset with no valid store: R6, R7, R35, R38, R42, R57,
R58, R65, R69, R77, R91, R94 to R96, R114, R116, R120, R131, R151, R160, R177. The model's choices in it: the store never written
(log 6), neither switch asserted (log 7), the interlock evaluation (log 9), the clock before frame 0 (log 10), the fields of what
was last sent, latched or given no value (log 40). -/
def Obligations.ResetStateHoldsTheTabledValues : Prop :=
  let s := State.reset
  let whole : Section := { range := .whole, repeats := 1, action := .stop }
  s.clock = { frame := 0, started := false } ∧
  s.scan = { lock := .unlocked, badRun := 0, goodRun := 0, errors := 0, verdict := none, lastTaken := none, timing := none } ∧
  (∀ k : KeyIdx, s.key k =
    { cal :=
        { rest := 400, bottom := 3600, tOff := 80, tStart := 120, tRearm := 600, tStrike := 880, curve := 0, trim := 0
          mode := .manual, restLo := 200, restHi := 800, enabled := true }
      stabRef := none, stabCount := 0, job := .notListed, motion := .rest, note := .idle, depth := 0, lastFrame := none
      mark := none, lastVelocity := none, flight := 0, member := false, faultRun := 0, part := 0 }) ∧
  (∀ n < 4, ∀ c < 256, curveEntry s.tracker.curves n c = 127 - 126 * c / 255) ∧
  s.tracker.track = { travelLimit := 32000, flightFrames := 320, clearanceLine := 300, splitKey := 39 } ∧
  (s.tracker.flightSet = [] ∧ s.tracker.deepCount = 0) ∧
  (∀ p : PedalIdx, (s.pedal p).awaiting = true ∧ (s.pedal p).value = 0 ∧ (s.pedal p).lastSent = none ∧
    (s.pedal p).interval = 0 ∧ (s.pedal p).cal.rest = 400 ∧ (s.pedal p).cal.bottom = 3600 ∧ (s.pedal p).cal.deadband = 2 ∧
    (s.pedal p).cal.map.toList = (List.range 17).map (fun i => if i = 16 then 127 else 8 * i)) ∧
  (s.pedalUnit.damper = .released ∧ s.pedalUnit.sostenuto = .released) ∧
  s.cal = { faultList := [], overflow := false, running := false, first := 0, last := 0, frames := 0 } ∧
  (s.store.valid = false ∧ s.store.saving = false ∧ s.store.saveFrames = 0 ∧ s.store.source = .factory) ∧
  s.queue = { records := [], drops := 0, refusals := 0, overrun := .armed, slots := [] } ∧
  s.rail =
    { state := .unknown, origin := none, target := none, next := none, reason := none, driver := .coast, clearance := 0
      motion := 0, pause := 0, pauseCount := 0, startLimit := 0, acousticSwitch := false, silentSwitch := false
      monitor := false, gate := .opened
      eval := { satisfied := false, flightSize := 0, deep := 0, lock := .unlocked, overflow := false }
      config := { motionLimit := 1200, clearTimeout := 3000, silentMode := .hold, acousticMode := .coast
                  faultMode := .coast } } ∧
  (s.memory.takeIsArea0 = true ∧ s.memory.take.header = { count := 0, barLen := 16000, beats := 4 } ∧
    s.memory.capture.header = { count := 0, barLen := 16000, beats := 4 } ∧
    ∀ i, slotAt s.memory.take.slots i = { delta := 0, kind := .endMark, part := 0, key := 0, value := 0, sub := 0 } ∧
      slotAt s.memory.capture.slots i = { delta := 0, kind := .endMark, part := 0, key := 0, value := 0, sub := 0 }) ∧
  s.recorder =
    { state := .idle, trigger := none, partMode := .split, pedals := false, pendingBars := none, base := none, lastPos := 0
      sounding := [], damperValue := 0, damperPart := 0 } ∧
  s.player =
    { state := .stopped, pos := 0, rate := 256, readIdx := 0, gatherLimit := none, startTarget := none, locate := none
      flushDest := none, shadow := whole, active := whole, working := whole, applyPending := false, stopAtEnd := false
      freePlay := false, parts := s.player.parts, sounding := [], lit := [], expected := [], follow := false, window := 240
      mistakes := 0, overflows := 0, hold := 0, lag := .armed, metronome := false, clickLevel := 262144 } ∧
  (∀ n < 4, partAt s.player n = { mode := .play, stream := .b, pending := none, lastDamper := 0 }) ∧
  s.mixer =
    { mode := .liveOnly, pendingMode := none, bal := 16384, fade := none, pendingBal := none, gate := .opened, gateGain := 0
      tableL := s.mixer.tableL, tableR := s.mixer.tableR, index := 40, targetL := 0, targetR := 0, gainL := 0, gainR := 0
      weightA := 0, weightB := 0, tone := List.replicate 6 { al := 0, ar := 0, bl := 0, br := 0 }, saturation := 0
      click := none, headphone := List.replicate 6 (0, 0) } ∧
  (∀ table ∈ [s.mixer.tableL, s.mixer.tableR],
    [63, 62, 60, 55, 50, 40, 31, 20, 10, 1, 0].map (tableGain table) =
      [32768, 30057, 25290, 16423, 10665, 4497, 2068, 800, 337, 155, 0]) ∧
  s.msg =
    { link := .down, badRun := 0, goodRun := 0, outage := 0, verdict := none, audio := none, assembler := .idle, replies := []
      notices := [], resetPending := false, resetDue := false, linkErrors := 0, framingErrors := 0, discarded := 0
      noticeDrops := 0, upstream := [] }

/-- PIN_RESET (R177) from every state: every block at the values that State.reset holds (ResetStateHoldsTheTabledValues), but
with the settings of a valid store, else the factory's (R75), and the rail, its reason, latch and gate from the switches (R94,
R111); the store's image and validity stand, and a save under way is abandoned (R74). The clock before frame 0 is the model's
choice (log 10), as are the values of logs 9 and 40. -/
def Obligations.PinResetSetsEveryBlock : Prop :=
  ∀ (sw : Switches) (s : State), ∃ t, exec (.pinReset sw) s = .next t ∧
    let r := State.reset
    let set : Settings := if s.store.valid then s.store.image else workingSettings r
    let gate : Gate := if sw.acoustic && !sw.silent then .closed else .opened
    t.clock = { frame := 0, started := false } ∧ t.scan = r.scan ∧ t.cal = r.cal ∧ t.queue = r.queue ∧
    t.recorder = r.recorder ∧ t.player = r.player ∧ t.msg = r.msg ∧ t.memory = r.memory ∧
    (∀ k : KeyIdx, t.key k = { r.key k with cal := set.keys[k.val] }) ∧
    t.tracker.curves = set.curves ∧ t.tracker.track = set.track ∧ t.tracker.flightSet = [] ∧ t.tracker.deepCount = 0 ∧
    (∀ p : PedalIdx, t.pedal p = { r.pedal p with cal := set.pedals[p.val] }) ∧
    t.pedalUnit.damper = .released ∧ t.pedalUnit.sostenuto = .released ∧
    t.rail = { r.rail with
      state := if sw.acoustic then (if sw.silent then .railFault else .acoustic)
        else (if sw.silent then .silent else .unknown)
      reason := if sw.acoustic && sw.silent then some .switchConflict else none
      acousticSwitch := sw.acoustic, silentSwitch := sw.silent, gate := gate, config := set.rail } ∧
    t.mixer = { r.mixer with tableL := set.tableL, tableR := set.tableR, gate := gate } ∧
    t.store = { s.store with
      saving := false, saveFrames := 0, source := if s.store.valid then .stored else .factory }

/-- SOFT_RESET at the reset tick (R176, R114) completes from every state in which it is due: it answers what a pin reset answers,
except that the main link is UP, and the roles, the slots of both areas and the take header are kept while the CAPTURE area is
emptied. The reset tick is not a frame tick: that a FRAME_TICK at which the reset is due does exactly what the soft reset does is
the model's inference from R176 (log 12). A SOFT_RESET that is not due changes nothing (the model's choice, log 13). -/
def Obligations.SoftResetKeepsTheTake : Prop :=
  ∀ (inp : TickInputs) (sw : Switches) (s : State),
    (s.msg.resetDue = true → ∃ p t, exec (.pinReset sw) s = .next p ∧ exec (.softReset sw) s = .next t ∧
      t = { p with memory := t.memory, msg := { p.msg with link := .up } } ∧
      t.memory.takeIsArea0 = s.memory.takeIsArea0 ∧ t.memory.take = s.memory.take ∧
      t.memory.capture.slots = s.memory.capture.slots ∧
      t.memory.capture.header = { count := 0, barLen := 16000, beats := 4 }) ∧
    (s.msg.resetDue = true → exec (.frameTick inp) s = exec (.softReset inp.sw) s) ∧
    (s.msg.resetDue = false → exec (.softReset sw) s = .next s)

/-- The bytes of a reply: code, tag, result, data length, data (R180). -/
def Sys2Proof.Claims.replyLaid (r : Reply) : List Byte :=
  match r.result with
  | .ok data => [r.code, r.tag, 0] ++ leBytes 1 data.length ++ data
  | .err e => [r.code, r.tag, 1, 1] ++ leBytes 1 e.code

/-- The number of segments of a reply (R169, R171). -/
def Sys2Proof.Claims.segmentsOf (r : Reply) : Nat := ((Sys2Proof.Claims.replyLaid r).length + 14) / 15

/-- The control byte and the stated payload of the segment that a tick sends (R172, R179, R180). -/
def Sys2Proof.Claims.segmentSent (m : MessageUnit) : List Byte :=
  match m.replies, m.notices with
  | r :: _, _ =>
    let first := if r.sent = 0 then 1 else 0
    let last := if r.sent + 1 = Sys2Proof.Claims.segmentsOf r then 2 else 0
    BitVec.ofNat 8 (first + last) :: ((Sys2Proof.Claims.replyLaid r).drop (15 * r.sent)).take 15
  | [], n :: _ => 0x0B :: (leBytes 1 n.kind.code ++ leBytes 4 n.frame.toNat ++ leBytes 1 n.data.length ++ n.data)
  | [], [] => [0x04]

/-- The reply queue after that segment: one more segment of its head sent, or its head gone with the last (R172). -/
def Sys2Proof.Claims.repliesLeft : List Reply → List Reply
  | [] => []
  | r :: rest => if Sys2Proof.Claims.segmentsOf r ≤ r.sent + 1 then rest else { r with sent := r.sent + 1 } :: rest

/-- The Notice Queue after that segment: the oldest notice gone where no reply waited (R172). -/
def Sys2Proof.Claims.noticesLeft (m : MessageUnit) : List Notice := if m.replies = [] then m.notices.tail else m.notices

/-- The Scan Receiver with the frame just ended settled at a tick: a verdict still PENDING is one bad frame, the missing one, by
the table of R4 (R3); any other verdict changes nothing more. -/
def Sys2Proof.Claims.missedScan (r : ScanReceiver) : ScanReceiver :=
  let n := { r with errors := min 65535 (r.errors + 1) }
  if r.verdict ≠ some .pending then r
  else if r.lock = .unlocked then { n with goodRun := 0 }
  else if 15 ≤ r.badRun then { n with lock := .unlocked, badRun := 0, goodRun := 0 }
  else { n with badRun := r.badRun + 1 }

/-- The main-link receiver with the frame just ended settled at a tick, by the table of R168 (R167); the link that goes DOWN
discards a message under assembly (R170). -/
def Sys2Proof.Claims.missedLink (m : MessageUnit) : MessageUnit :=
  let n := { m with linkErrors := min 65535 (m.linkErrors + 1) }
  if m.verdict ≠ some .pending then m
  else if m.link = .down then { n with goodRun := 0, outage := min 65535 (m.outage + 1) }
  else if 79 ≤ m.badRun then
    { n with
      link := .down, badRun := 0, goodRun := 0, outage := 80, assembler := .idle
      framingErrors := match m.assembler with
        | .assembling _ _ => min 65535 (m.framingErrors + 1)
        | .idle | .discarding => m.framingErrors }
  else { n with badRun := m.badRun + 1 }

/-- An upstream frame formed at this moment: its status field as the items stand (R166, R179), and its segment. -/
def Sys2Proof.Claims.frameOf (u : State) (bytes : List Byte) : Prop :=
  let sent := Sys2Proof.Claims.segmentSent u.msg
  (bytes.drop 6).take 2 = leBytes 2 (u.rail.state.code + 8 * u.player.state.code +
    (if u.scan.lock = .locked then 256 else 0) + (if u.recorder.state = .recording then 512 else 0) +
    (if Sys2Proof.Claims.noticesLeft u.msg = [] then 0 else 1024)) ∧
  (bytes.drop 56).take sent.length = sent ∧ (sent.length ≤ 16 → bytes.length = 72)

/-- FRAME_TICK (R166) in whatever order the blocks' works come, the order being the model's operand (log 4): what each block's
work leaves in every order. The frame number advances (R177); a scan or downstream verdict still PENDING is settled BAD as tabled
(R3, R4, R167, R168), SCAN_LOST being stored or counted as dropped where the lock goes, and the new verdicts are opened and the
timing sent (R1); of a key record only the timer (R22), an OWED status (R20) and the job's fields (R67) change, and the flight set
is recomputed; at most six records leave for the slots (R84); interval timers count (R47); the job and a save age by a frame and
end where they must (R67, R74); the rail does its tick work on the recomputed sets (R101); an ARMED Player and a recorder ARMED on
the cue start on it and pending parts apply (R132, R137, R122); the Mixer takes steps 1 to 7 and sends six samples (R153 to R159,
R163); one upstream frame with mark, number and slots is sent. The Player does its own work (R132), stated at its events and in
AHeldRecordIsRetried: where all it presents is admitted in every order (R85), or nothing is, it ends as that work alone leaves it,
its records are in the slots or the queue, and the samples take its click (R150, R163). That the 2,400th tick of a save always
completes it is the model's inference (log 33). The frame's segment and status field (R166, R172, R179) are those of a moment of
the tick, at which the replies are the ones that waited and the notices the ones that waited with those the tick has raised so
far: the head reply's next segment, which counts, or takes the reply from the queue where it is its last; else the oldest notice,
which leaves; else an IDLE segment. That both are those of one moment is the model's choice (log 47), as are bits 4 to 7 of the
control byte (log 44); the bytes that fill a payload stay free (log 25). -/
def Obligations.FrameTickRunsEveryBlocksWork : Prop :=
  (∀ (inp : TickInputs) (s : State), s.msg.resetDue = false →
      ∃ t, exec (.frameTick inp) s = .next t ∧
        (t.clock = { frame := if s.clock.started then s.clock.frame + 1 else 0, started := true } ∧
          t.scan = { Sys2Proof.Claims.missedScan s.scan with
            verdict := some .pending, timing := some (t.clock.frame.setWidth 16) } ∧
          t.msg = { Sys2Proof.Claims.missedLink s.msg with
            verdict := some .pending, audio := none, replies := t.msg.replies, notices := t.msg.notices
            noticeDrops := t.msg.noticeDrops, resetDue := t.msg.resetDue, upstream := t.msg.upstream }) ∧
        ((∀ k : KeyIdx, (t.key k).flight = (s.key k).flight - 1) ∧
          (∀ k : KeyIdx, k ∈ t.tracker.flightSet ↔ 1 < (s.key k).flight) ∧
          (∀ k : KeyIdx, t.key k = { s.key k with
            flight := (t.key k).flight, note := (t.key k).note, job := (t.key k).job, stabRef := (t.key k).stabRef
            stabCount := (t.key k).stabCount }) ∧
          (∀ k : KeyIdx, ((s.key k).note = .owed → (t.key k).note = .idle ∨ (t.key k).note = .owed) ∧
            ((s.key k).note ≠ .owed → (t.key k).note = (s.key k).note))) ∧
        t.queue.slots.length ≤ 6 ∧
        (∀ p : PedalIdx, ((t.pedal p).interval = (s.pedal p).interval - 1 ∨ (t.pedal p).interval = 4) ∧
          t.pedal p = { s.pedal p with interval := (t.pedal p).interval, lastSent := (t.pedal p).lastSent }) ∧
        (t.cal = { s.cal with running := t.cal.running, frames := if s.cal.running then s.cal.frames + 1 else s.cal.frames } ∧
          (t.cal.running = true ↔ s.cal.running = true ∧ s.cal.frames < 3999 ∧ ∃ k a n, (s.key k).job = .counting a n)) ∧
        (t.store = if s.store.saving = false then s.store
          else if inp.storeDone = true ∨ 2399 ≤ s.store.saveFrames then
            { s.store with
              image := if inp.storeMatches then s.store.saveImage else s.store.image
              valid := inp.storeMatches, saving := false, saveFrames := 0 }
          else { s.store with saveFrames := s.store.saveFrames + 1 }) ∧
        t.rail = (runWork (.rail inp.sw) { s with clock := t.clock, scan := t.scan, tracker := t.tracker }).2.rail ∧
        ((s.player.state = .armed → inp.cue = true → t.player.state = .locating ∧ t.player.startTarget = none) ∧
          (∀ n < 4, (partAt t.player n).pending = none ∧ ((partAt t.player n).mode, (partAt t.player n).stream) =
            (partAt s.player n).pending.getD ((partAt s.player n).mode, (partAt s.player n).stream)) ∧
          (inp.cue = true → ¬ (t.recorder.state = .armed ∧ t.recorder.trigger = some .cue))) ∧
        ((s.msg.link = .down → t.mixer.tone = List.replicate 6 { al := 0, ar := 0, bl := 0, br := 0 }) ∧
          (s.msg.link = .up → s.msg.verdict ≠ some .pending →
            t.mixer.tone = s.msg.audio.getD (List.replicate 6 { al := 0, ar := 0, bl := 0, br := 0 }))) ∧
        (t.mixer.mode = s.mixer.pendingMode.getD s.mixer.mode ∧ t.mixer.pendingMode = none) ∧
        (s.mixer.pendingBal = none → t.mixer.pendingBal = none ∧ t.mixer.bal = (fadeStep s.mixer).bal ∧
          t.mixer.fade = (fadeStep s.mixer).fade ∧
          (t.mixer.mode = .blend → t.mixer.weightA = (t.mixer.bal * t.mixer.gateGain + 16384) / 32768 ∧
            t.mixer.weightB = 32768 - t.mixer.bal) ∧
          (t.mixer.mode = .liveOnly → t.mixer.weightA = t.mixer.gateGain ∧ t.mixer.weightB = 0) ∧
          (t.mixer.mode = .takeOnly → t.mixer.weightA = 0 ∧ t.mixer.weightB = 32768)) ∧
        (t.mixer.gateGain = slew 512 32768 s.mixer.gateGain ∨ t.mixer.gateGain = slew 512 0 s.mixer.gateGain) ∧
        (t.mixer.targetL = tableGain s.mixer.tableL s.mixer.index ∧
          t.mixer.targetR = tableGain s.mixer.tableR s.mixer.index ∧
          t.mixer.gainL = slew 512 (tableGain s.mixer.tableL s.mixer.index) s.mixer.gainL ∧
          t.mixer.gainR = slew 512 (tableGain s.mixer.tableR s.mixer.index) s.mixer.gainR) ∧
        t.mixer.headphone.length = 6 ∧
        t.msg.upstream.take 6 = [0x3C#8, 0xA5#8] ++ leBytes 4 t.clock.frame.toNat ∧
        (t.msg.upstream.drop 8).take 48 = slotBytes t.queue.slots) ∧
  (∀ (inp : TickInputs) (s : State), s.msg.resetDue = false →
    ∃ t u more late, exec (.frameTick inp) s = .next t ∧
      (u.clock = t.clock ∧ u.queue.slots = t.queue.slots ∧ u.msg.replies = s.msg.replies ∧
        u.msg.notices = s.msg.notices ++ more ∧ (∀ n ∈ more ++ late, n.frame = t.clock.frame)) ∧
      (let lost : Prop := s.scan.lock = .locked ∧ t.scan.lock = .unlocked
       (lost → min 255 (s.msg.noticeDrops + 1) ≤ t.msg.noticeDrops ∨
        { kind := .scanLost, frame := t.clock.frame
          data := leBytes 4 (match s.scan.lastTaken with | some f => f.toNat | none => 0) } ∈ more ++ late) ∧
       (¬ lost → ∀ n ∈ more ++ late, n.kind ≠ .scanLost)) ∧
      ((u.rail.state = s.rail.state ∨ u.rail.state = t.rail.state) ∧
        (u.scan.lock = s.scan.lock ∨ u.scan.lock = t.scan.lock) ∧
        (s.player.state = .stopped → u.player.state = .stopped) ∧
        (s.recorder.state = .idle → u.recorder.state = .idle) ∧
        (s.recorder.state = .recording → t.recorder.state = .recording → u.recorder.state = .recording)) ∧
      (Sys2Proof.Claims.frameOf u t.msg.upstream ∧ t.msg.replies = Sys2Proof.Claims.repliesLeft u.msg.replies ∧
        t.msg.notices = Sys2Proof.Claims.noticesLeft u.msg ++ late)) ∧
  (∀ (inp : TickInputs) (s : State), s.msg.resetDue = false →
    let alone (held : List EventRecord) : State :=
      playerRun (playerFuel s) (.cue inp.cue) { s with queue := { s.queue with records := held } }
    let free := alone []
    let owed := (List.finRange 88).filter (fun k => decide ((s.key k).note = .owed))
    ∃ t, exec (.frameTick inp) s = .next t ∧
      (free.queue.records = [] ∨ s.queue.records.length + owed.length + 3 + free.queue.records.length ≤ 64 →
        t.player = free.player ∧
        (∀ ev ∈ free.queue.records, ∃ x ∈ t.queue.slots ++ t.queue.records,
          { x with age := 0, offset := 0 } = { ev with offset := 0 } ∧
          (s.player.rate ≠ 256 ∨ (ev.kind ≠ .noteOff ∧ ev.kind ≠ .damper) → x.offset = ev.offset)) ∧
        (∀ c, s.recorder.state = .recording → s.recorder.base = some (.player c) → t.recorder.state = .recording →
          t.recorder.base = free.recorder.base) ∧
        (let sent := (runWork .samples { s with mixer := { t.mixer with
            click := free.mixer.click, saturation := s.mixer.saturation } }).2.mixer
         t.mixer.headphone = sent.headphone ∧ t.mixer.saturation = sent.saturation ∧ t.mixer.click = sent.click)) ∧
      (70 ≤ s.queue.records.length → t.player = (alone s.queue.records).player))

/-! ## Scan Receiver and Key Tracker -/

/-- The keys below or from a place, each with its sample, one after another (R5). -/
def Sys2Proof.Claims.handled (keys : List KeyIdx) (words : List ScanWord) (s : State) : State :=
  keys.foldl (fun u k => keySample k (sampleAt words k.val) u) s

/-- SCAN_FRAME (R2, R4): a frame that finds its verdict settled, a stale frame, a bad frame and a good frame, in each lock
state, short of the run that changes the lock. A message that completes among the samples taken (the operand `mid`, log 3) is
executed between two keys: the keys below its place are handled before it and the others after it, with the settings it stores
(R33, R39). A CURVE_WRITE may have stored its first entries before the sample of an earlier key (R33). -/
def Obligations.ScanFrameSettlesItsVerdict : Prop :=
  ∀ (words : List ScanWord) (mid : Option MidMessage) (s : State),
    let counted := { s with scan := { s.scan with errors := min 65535 (s.scan.errors + 1) } }
    let sound : Prop := words.length = 93 ∧ crcOf words = words.getD 92 0
    let good := { s with scan := { s.scan with verdict := some .good, badRun := 0 } }
    let taken := { s with scan := { s.scan with verdict := some .good, badRun := 0, lastTaken := some s.clock.frame } }
    (s.scan.verdict = some .good ∨ s.scan.verdict = some .bad → exec (.scanFrame ⟨words, mid⟩) s = .next counted) ∧
    (s.scan.verdict = some .pending → sound → words.getD 91 0 ≠ s.clock.frame.setWidth 16 →
      exec (.scanFrame ⟨words, mid⟩) s = .next counted) ∧
    (s.scan.verdict = some .pending → ¬ sound →
      (s.scan.lock = .locked → s.scan.badRun < 15 → exec (.scanFrame ⟨words, mid⟩) s = .next { s with scan := { s.scan with
        verdict := some .bad, errors := min 65535 (s.scan.errors + 1), badRun := s.scan.badRun + 1 } }) ∧
      (s.scan.lock = .unlocked → exec (.scanFrame ⟨words, mid⟩) s = .next { s with scan := { s.scan with
        verdict := some .bad, errors := min 65535 (s.scan.errors + 1), goodRun := 0 } })) ∧
    (s.scan.verdict = some .pending → sound → words.getD 91 0 = s.clock.frame.setWidth 16 →
      (s.scan.lock = .locked → exec (.scanFrame ⟨words, mid⟩) s = .next (takeSamples words mid good) ∧
        (mid = none → exec (.scanFrame ⟨words, mid⟩) s = .next (railScanEval (pedalSamples words (recomputeSets
          (Sys2Proof.Claims.handled (List.finRange 88) words taken))))) ∧
        (∀ m, mid = some m → m.code ≠ 0x13 → exec (.scanFrame ⟨words, mid⟩) s = .next (railScanEval (pedalSamples words
          (recomputeSets
            (Sys2Proof.Claims.handled ((List.finRange 88).filter (fun k => decide (m.before.val ≤ k.val))) words
              (dispatch m.code m.tag m.body
                (Sys2Proof.Claims.handled ((List.finRange 88).filter (fun k => decide (k.val < m.before.val))) words
                  taken)))))))) ∧
      (s.scan.lock = .unlocked → s.scan.goodRun < 3 → exec (.scanFrame ⟨words, mid⟩) s =
        .next { s with scan := { s.scan with verdict := some .good, goodRun := s.scan.goodRun + 1 } })) ∧
    (∀ (m : MidMessage) (n : Nat) (curve start : Byte) (vals : List Byte), n < m.before.val → m.code = 0x13 →
      m.body = curve :: start :: vals → windowOpen s = true → 1 ≤ vals.length → vals.length ≤ 232 → curve.toNat ≤ 3 →
      let count := min (m.stored.getD n 0) vals.length
      let t := midStep (some m) n s
      (∀ (j : Nat) (h : j < vals.length), j < count →
        curveEntry t.tracker.curves curve.toNat ((start.toNat + j) % 256) = clampNat 1 127 (vals[j]).toNat) ∧
      (∀ e < 256, (∀ j < count, e ≠ (start.toNat + j) % 256) →
        curveEntry t.tracker.curves curve.toNat e = curveEntry s.tracker.curves curve.toNat e) ∧
      (∀ c < 4, c ≠ curve.toNat → ∀ e < 256, curveEntry t.tracker.curves c e = curveEntry s.tracker.curves c e) ∧
      t = { s with tracker := { s.tracker with curves := t.tracker.curves } })

/-- SCAN_LOST and SCAN_LOCKED (R4). The sixteenth bad frame in a row unlocks, clears both runs and raises SCAN_LOST with the last
taken frame (0 when none). The fourth good frame in a row locks, clears both runs, raises SCAN_LOCKED with the frames between,
and its samples are taken. The SCAN_FRAME there does the same. -/
def Obligations.ScanLockChangesAtItsRuns : Prop :=
  (∀ (words : List ScanWord) (mid : Option MidMessage) (s : State), s.scan.lock = .locked → s.scan.badRun = 15 →
      s.scan.verdict = some .pending →
      exec .scanLost s = .next (raiseNotice .scanLost
        (leBytes 4 (match s.scan.lastTaken with | some f => f.toNat | none => 0))
        { s with scan := { s.scan with
            verdict := some .bad, errors := min 65535 (s.scan.errors + 1), lock := .unlocked, badRun := 0, goodRun := 0 } }) ∧
      (words.length ≠ 93 ∨ crcOf words ≠ words.getD 92 0 → exec (.scanFrame ⟨words, mid⟩) s = exec .scanLost s)) ∧
  (∀ (words : List ScanWord) (mid : Option MidMessage) (s : State), s.scan.lock = .unlocked → s.scan.goodRun = 3 →
      s.scan.verdict = some .pending →
      words.length = 93 → crcOf words = words.getD 92 0 → words.getD 91 0 = s.clock.frame.setWidth 16 →
      exec (.scanLocked ⟨words, mid⟩) s = .next (takeSamples words mid (raiseNotice .scanLocked
        (leBytes 2 (match s.scan.lastTaken with
          | some l => min 65535 ((s.clock.frame - l).toNat - 1)
          | none => 0))
        { s with scan := { s.scan with verdict := some .good, lock := .locked, badRun := 0, goodRun := 0 } })) ∧
      exec (.scanFrame ⟨words, mid⟩) s = exec (.scanLocked ⟨words, mid⟩) s)

/-- The crossing time of a line between a stored depth of frame `np` and a new depth of frame `nc` (R11). -/
def Sys2Proof.Claims.crossing (np nc : FrameNo) (dp dc line : Nat) : TickTime :=
  BitVec.ofNat 36 (16 * np.toNat + 16 * (nc - np).toNat * (line - dp) / (dc - dp))

/-- The record of a key's NOTE_ON (R19, R24, R36, R37): the strike crossing modulo 16, the part by the split key, the
velocity from the curve and the trim. -/
def Sys2Proof.Claims.noteOn (s : State) (k : KeyIdx) (interval : Nat) (strike : TickTime) (isRepeat : Bool) : EventRecord :=
  { kind := .noteOn, source := .live, stream := .a, part := if k.val < s.tracker.track.splitKey then 0 else 1, key := k.val,
    value := (clampInt 1 127 ((curveEntry s.tracker.curves (s.key k).cal.curve (travelCode interval) : Int) +
      (s.key k).cal.trim)).toNat,
    isRepeat := isRepeat, offset := strike.toNat % 16, age := 0 }

/-- A strike (R15, R17, R19, R22, R27, R28): a good sample that crosses T_strike downward from TRAVEL, or from RETRAVEL with the
interval normalised by the key's lines, loads the flight timer and clears the mark. Within the travel limit the key is SOUNDING
and a NOTE_ON is presented: admitted at an occupancy of 95 or less, when the key is ON with that velocity and part; refused at
96, when an IDLE or LOST key is LOST and any other ON. Above the limit a strike makes the key SILENT, a restrike SOUNDING, and
nothing is presented. -/
def Obligations.StrikeFromTravelSendsNoteOn : Prop :=
  ∀ (k : KeyIdx) (raw : Nat) (np : FrameNo) (mark : TickTime) (s : State), (s.key k).cal.enabled = true →
    (s.key k).motion = .travel ∨ (s.key k).motion = .retravel → (s.key k).lastFrame = some np → (s.key k).mark = some mark →
    1 ≤ raw → raw ≤ 4094 →
    let c := (s.key k).cal
    let again : Bool := decide ((s.key k).motion = .retravel)
    let d := normalise c.rest c.bottom raw
    (s.key k).depth < c.tStrike → c.tStrike ≤ d →
    let at_ := Sys2Proof.Claims.crossing np s.clock.frame (s.key k).depth d c.tStrike
    let interval := max 1 (if again then (at_ - mark).toNat * (c.tStrike - c.tStart) / (c.tStrike - c.tRearm)
      else (at_ - mark).toNat)
    let ev := Sys2Proof.Claims.noteOn s k interval at_
      (again || decide ((s.key k).note = .held ∨ (s.key k).note = .owed))
    let t := keySample k raw s
    (t.key k).mark = none ∧ (t.key k).flight = s.tracker.track.flightFrames ∧ (t.key k).depth = d ∧
      (∀ j, j ≠ k → t.key j = s.key j) ∧
      (interval ≤ s.tracker.track.travelLimit → s.queue.records.length ≤ 95 →
        (t.key k).motion = .sounding ∧ (t.key k).note = .active ∧ (t.key k).lastVelocity = some ev.value ∧
        (t.key k).part = ev.part ∧ (∃ more, t.queue.records = s.queue.records ++ ev :: more) ∧
        (s.player.state ≠ .waiting → t.queue.records = s.queue.records ++ [ev])) ∧
      (interval ≤ s.tracker.track.travelLimit → 96 ≤ s.queue.records.length →
        (t.key k).motion = .sounding ∧ t.queue.records = s.queue.records ∧
        (t.key k).note = (if (s.key k).note = .idle ∨ (s.key k).note = .lost then .lost else .active) ∧
        (t.key k).lastVelocity = (s.key k).lastVelocity ∧ t.queue.drops = min 65535 (s.queue.drops + 1)) ∧
      (s.tracker.track.travelLimit < interval →
        (t.key k).motion = (if again then .sounding else .silent) ∧ (t.key k).note = (s.key k).note ∧ t.queue = s.queue)

/-- The record of a key's NOTE_OFF (R20). -/
def Sys2Proof.Claims.noteOff (s : State) (k : KeyIdx) : EventRecord :=
  { kind := .noteOff, source := .live, stream := .a, part := (s.key k).part, key := k.val, value := 0, isRepeat := false,
    offset := 0, age := 0 }

/-- The motion state after a good sample that strikes nothing, from the stored depth `dp` to the new depth `d` (R14, R16, R17,
R18; R12). -/
def Sys2Proof.Claims.nextMotion (c : KeyCal) (dp d : Nat) : Motion → Motion
  | .rest => if dp < c.tStart ∧ c.tStart ≤ d then .travel else .rest
  | .travel => if d < c.tOff then .rest else .travel
  | .sounding => if c.tRearm ≤ d then .sounding else if d < c.tOff then .rest else .rearmed
  | .rearmed => if dp < c.tRearm ∧ c.tRearm ≤ d then .retravel else if d < c.tOff then .rest else .rearmed
  | .retravel => if d < c.tOff then .rest else if c.tRearm ≤ dp ∧ d < c.tRearm then .rearmed else .retravel
  | .silent => if d < c.tOff then .rest else .silent
  | .fault => .fault

/-- The mark after such a sample: the crossing time of the line that began a travel, absent after a return to REST and a rise to
REARMED, else as it was (R14, R16, R17, R18). -/
def Sys2Proof.Claims.nextMark (r : KeyRecord) (np nc : FrameNo) (d : Nat) : Option TickTime :=
  match r.motion, Sys2Proof.Claims.nextMotion r.cal r.depth d r.motion with
  | .rest, .travel => some (Sys2Proof.Claims.crossing np nc r.depth d r.cal.tStart)
  | .rearmed, .retravel => some (Sys2Proof.Claims.crossing np nc r.depth d r.cal.tRearm)
  | .rest, .rest => r.mark
  | _, .rest => none
  | .retravel, .rearmed => none
  | _, _ => r.mark

/-- Entry into REST (R18, R20): the note status settled by the damper and the sostenuto, as tabled. And the good samples that lead
there or strike nothing (R8, R13, R14, R16, R17): the motion state and the mark move by the lines; a return to REST is that entry,
any other sample leaves note and queue; a pair that crosses both lines of a travel is the two transitions in turn; a first sample
makes the key REST or SILENT and does nothing else. -/
def Obligations.EnteringRestSettlesTheNote : Prop :=
  (∀ (k : KeyIdx) (s : State),
    let t := enterRest k s
    let heldUp : Prop := s.pedalUnit.damper = .engaged ∨ (s.key k).member = true
    (t.key k).motion = .rest ∧ (t.key k).mark = none ∧ (∀ j, j ≠ k → t.key j = s.key j) ∧
      ((s.key k).note = .lost → (t.key k).note = .idle ∧ t.queue = s.queue) ∧
      ((s.key k).note = .idle ∨ (s.key k).note = .owed → (t.key k).note = (s.key k).note ∧ t.queue = s.queue) ∧
      ((s.key k).note = .active ∨ (s.key k).note = .held → heldUp → (t.key k).note = .held ∧ t.queue = s.queue) ∧
      ((s.key k).note = .active ∨ (s.key k).note = .held → ¬ heldUp →
        (s.queue.records.length ≤ 95 → (t.key k).note = .idle ∧
          t.queue.records = s.queue.records ++ [Sys2Proof.Claims.noteOff s k]) ∧
        (96 ≤ s.queue.records.length → (t.key k).note = .owed ∧ t.queue.records = s.queue.records ∧
          t.queue.refusals = min 65535 (s.queue.refusals + 1)))) ∧
  (∀ (k : KeyIdx) (raw : Nat) (s : State), (s.key k).cal.enabled = true → (s.key k).motion ≠ .fault → 1 ≤ raw → raw ≤ 4094 →
    let r := s.key k
    let d := normalise r.cal.rest r.cal.bottom raw
    let t := keySample k raw s
    ((t.key k).depth = d ∧ (t.key k).lastFrame = some s.clock.frame ∧ (t.key k).faultRun = 0 ∧
      (∀ j, j ≠ k → t.key j = s.key j)) ∧
    (r.lastFrame = none → (t.key k).motion = (if d < r.cal.tStart then .rest else .silent) ∧ (t.key k).mark = none ∧
      (t.key k).flight = r.flight ∧ (t.key k).note = r.note ∧ t = { s with tracker := t.tracker }) ∧
    (∀ np, r.lastFrame = some np →
      (¬ (r.depth < r.cal.tStrike ∧ r.cal.tStrike ≤ d) ∨ r.motion = .sounding ∨ r.motion = .silent →
        let m := Sys2Proof.Claims.nextMotion r.cal r.depth d r.motion
        (t.key k).motion = m ∧ (t.key k).mark = Sys2Proof.Claims.nextMark r np s.clock.frame d ∧
        (t.key k).flight = r.flight ∧
        (m = .rest → r.motion ≠ .rest →
          (t.key k).note = ((enterRest k s).key k).note ∧ t = { enterRest k s with tracker := t.tracker }) ∧
        (m ≠ .rest ∨ r.motion = .rest → (t.key k).note = r.note ∧ t = { s with tracker := t.tracker })) ∧
      (r.motion = .rest → r.depth < r.cal.tStart → r.cal.tStart ≤ d → r.depth < r.cal.tStrike → r.cal.tStrike ≤ d →
        t = keySample k raw (s.setKey k { r with
          motion := .travel, mark := some (Sys2Proof.Claims.crossing np s.clock.frame r.depth d r.cal.tStart) })) ∧
      (r.motion = .rearmed → r.depth < r.cal.tRearm → r.cal.tRearm ≤ d → r.depth < r.cal.tStrike → r.cal.tStrike ≤ d →
        t = keySample k raw (s.setKey k { r with
          motion := .retravel, mark := some (Sys2Proof.Claims.crossing np s.clock.frame r.depth d r.cal.tRearm) }))))

/-- NOTE_OFF_RETRY (R20): with room for all of them, every OWED key's NOTE_OFF is admitted in ascending key order and the key
becomes IDLE, every other key staying as it is; at an occupancy of 96 every OWED key stays OWED and each refusal is counted;
with no OWED key nothing changes. -/
def Obligations.NoteOffRetrySendsEveryOwed : Prop :=
  ∀ s : State,
    let owed := (List.finRange 88).filter (fun k => decide ((s.key k).note = .owed))
    ∃ t, exec .noteOffRetry s = .next t ∧
      (s.queue.records.length + owed.length ≤ 96 →
        t.queue.records = s.queue.records ++ owed.map (Sys2Proof.Claims.noteOff s) ∧
        ∀ k, t.key k = if (s.key k).note = .owed then { s.key k with note := .idle } else s.key k) ∧
      (96 ≤ s.queue.records.length → owed ≠ [] →
        t = { s with queue := { s.queue with refusals := min 65535 (s.queue.refusals + owed.length) } }) ∧
      (owed = [] → t = s)

/-- FLIGHT_TIMER_EXPIRY (R22, R23): a flight timer of 1 reaches 0 and the key leaves the flight set; every other key's record
stays, and the flight set and the deep count are recomputed from the records and the clearance line, nothing else changing. -/
def Obligations.FlightTimerExpiryLeavesTheFlightSet : Prop :=
  ∀ (k : KeyIdx) (s : State), (s.key k).flight = 1 →
    ∃ t, exec (.flightTimerExpiry k) s = .next t ∧ t.key k = { s.key k with flight := 0 } ∧ k ∉ t.tracker.flightSet ∧
      (∀ j, j ≠ k → t.key j = s.key j) ∧ (∀ j, j ≠ k → (j ∈ t.tracker.flightSet ↔ 0 < (s.key j).flight)) ∧
      t.tracker.deepCount = ((List.finRange 88).filter (fun j => decide ((s.key j).cal.enabled = true ∧
        (s.key j).motion ≠ .fault ∧ s.tracker.track.clearanceLine ≤ (s.key j).depth))).length ∧
      t = { s with tracker := t.tracker } ∧ t.tracker.curves = s.tracker.curves ∧ t.tracker.track = s.tracker.track

/-- KEY_FAULT (R68, R69, R20, R21, R51): the 64th fault sample in a row puts the key in FAULT: its NOTE_OFF is attempted where it
was ON or HELD, timer, mark, member mark and stability state are cleared, a counting key is dropped, the key is listed where
fewer than 8 are held and the overflow flag set otherwise, and KEY_FAULT is raised. That the command also recomputes the sets and
makes the scan-frame evaluation (log 17), and that it does so in any lock state and before frame 0 (log 51), is the model's choice.
A fault sample before the 64th changes the fault run, the stability
state of an AUTO key (R62) and the sum and count of a counting one (R66) alone (R9); a sample of a disabled key or of one in FAULT
changes nothing (R8). -/
def Obligations.KeyFaultEntersFault : Prop :=
  (∀ (k : KeyIdx) (raw : Nat) (s : State), (s.key k).cal.enabled = true → (s.key k).motion ≠ .fault →
    (s.key k).faultRun = 63 → (raw = 0 ∨ raw = 4095) →
    let sounds : Prop := (s.key k).note = .active ∨ (s.key k).note = .held
    ∃ t, exec (.keyFault k raw) s = .next t ∧ (t.key k).motion = .fault ∧ (t.key k).faultRun = 64 ∧
      (t.key k).flight = 0 ∧ (t.key k).mark = none ∧ (t.key k).member = false ∧ (t.key k).stabRef = none ∧
      (t.key k).stabCount = 0 ∧
      (t.key k).note = (match (s.key k).note with
        | .active | .held => if s.queue.records.length ≤ 95 then .idle else .owed
        | .lost | .idle => .idle
        | .owed => .owed) ∧
      (¬ sounds → t.queue = s.queue) ∧
      (sounds → s.queue.records.length ≤ 95 →
        t.queue = { s.queue with records := s.queue.records ++ [Sys2Proof.Claims.noteOff s k] }) ∧
      (sounds → 96 ≤ s.queue.records.length →
        t.queue = { s.queue with refusals := min 65535 (s.queue.refusals + 1) }) ∧
      ((∃ a n, (s.key k).job = .counting a n) → (t.key k).job = .dropped) ∧
      (t.cal.faultList = if s.cal.faultList.length < 8 then s.cal.faultList ++ [k] else s.cal.faultList) ∧
      (t.cal.overflow = if s.cal.faultList.length < 8 then s.cal.overflow else true) ∧
      (let data := leBytes 1 k.val ++ leBytes 2 raw ++ boolByte (decide (s.cal.faultList.length < 8)) ++
        leBytes 1 t.cal.faultList.length
       (s.recorder.state ≠ .recording → t.msg = (raiseNotice .keyFault data s).msg) ∧
       ∃ u : State, u.clock = s.clock ∧ (u.msg = s.msg ∨ ∃ d, u.msg = (raiseNotice .captureFull d s).msg) ∧
        t.msg = (raiseNotice .keyFault data u).msg) ∧
      k ∉ t.tracker.flightSet ∧ (∀ j, j ≠ k → t.key j = s.key j) ∧ t.player = s.player ∧ t.pedalUnit = s.pedalUnit ∧
      t.store = s.store ∧ t.scan = s.scan ∧ t.clock = s.clock) ∧
  (∀ (k : KeyIdx) (raw : Nat) (s : State), (raw = 0 ∨ raw = 4095) → (s.key k).cal.enabled = true → (s.key k).motion ≠ .fault →
    let r := s.key k
    let t := keySample k raw s
    (r.faultRun < 63 →
      t.key k = { r with
        faultRun := r.faultRun + 1
        stabRef := if r.cal.mode = .auto then none else r.stabRef
        stabCount := if r.cal.mode = .auto then 0 else r.stabCount
        job := match r.job with | .counting _ _ => .counting 0 0 | j => j } ∧
      (∀ j, j ≠ k → t.key j = s.key j) ∧
      t = { s with tracker := { s.tracker with keys := t.tracker.keys } }) ∧
    (r.faultRun = 63 → exec (.keyFault k raw) s = .next (railScanEval (recomputeSets t)))) ∧
  (∀ (k : KeyIdx) (raw : Nat) (s : State), (s.key k).cal.enabled = false ∨ (s.key k).motion = .fault → keySample k raw s = s)

/-! ## Pedal Unit -/

/-- A pedal is due (R46). -/
def Sys2Proof.Claims.pedalIsDue (r : PedalRecord) : Prop :=
  r.awaiting = false ∧
    ((r.lastSent = none ∧ r.value ≠ 0) ∨
     ∃ v, r.lastSent = some v ∧ r.value ≠ v ∧ (r.cal.deadband ≤ distance r.value v ∨ r.value = 0 ∨ r.value = 127))

/-- The live record of a pedal event (R48). -/
def Sys2Proof.Claims.pedalEvent (p : PedalIdx) (value : Nat) : EventRecord :=
  { kind := if p = 0 then .damper else if p = 1 then .sostenuto else .soft, source := .live, stream := .a, part := 0,
    key := p.val, value := value, isRepeat := false, offset := 0, age := 0 }

/-- The NOTE_OFFs of a release (R52, R53), for keys in ascending order: with room for all of them each enters the queue and its
key becomes IDLE; at an occupancy of 96 every NOTE_OFF is refused and counted, and its key is OWED. Every other key's record is as
it was, but for the member mark where `cleared` says so. -/
def Sys2Proof.Claims.released (keys : List KeyIdx) (cleared : Bool) (s t : State) : Prop :=
  let after (k : KeyIdx) (n : NoteStatus) : KeyRecord :=
    { s.key k with note := n, member := if cleared then false else (s.key k).member }
  (∀ k, k ∉ keys → t.key k = after k (s.key k).note) ∧
  (s.queue.records.length + keys.length ≤ 96 → (∀ k ∈ keys, t.key k = after k .idle) ∧
    t.queue = { s.queue with records := s.queue.records ++ keys.map (Sys2Proof.Claims.noteOff s) }) ∧
  (96 ≤ s.queue.records.length → keys ≠ [] → (∀ k ∈ keys, t.key k = after k .owed) ∧
    t.queue = { s.queue with refusals := min 65535 (s.queue.refusals + keys.length) })

/-- The engage state after a frame with this value (R49). -/
def Sys2Proof.Claims.engageAfter (e : Engage) (value : Nat) : Engage :=
  match e with
  | .released => if value < 64 then .released else .engaged
  | .engaged => if 48 ≤ value then .engaged else .released

/-- The Pedal Unit. PEDAL_EVENT_RETRY and PEDAL_INTERVAL_EXPIRY (R46, R47, R48): a due pedal whose timer is at 0 presents its
value; an admitted event sets the last sent value and the timer to 4, a refused one leaves both; an expiry of a pedal that is not
due presents nothing, and an absent last sent value becomes 0, for a pedal no longer awaiting only (the model's choice, log 15).
A sample (R44, R45) and the steps of a taken frame in their order (R43): the engage states by the values (R49), the sostenuto set
formed (R50), the damper release (R52) and the sostenuto release (R53). -/
def Obligations.DuePedalSendsItsEvent : Prop :=
  (∀ (p : PedalIdx) (s : State),
    let r := s.pedal p
    let ev := Sys2Proof.Claims.pedalEvent p r.value
    let sent := { r with lastSent := some r.value, interval := 4 }
    (Sys2Proof.Claims.pedalIsDue r → r.interval = 0 →
      (s.queue.records.length ≤ 95 →
        exec (.pedalEventRetry p) s = .next ((observeLive ev (enqueue ev s)).setPedal p sent)) ∧
      (96 ≤ s.queue.records.length → exec (.pedalEventRetry p) s =
        .next { s with queue := { s.queue with refusals := min 65535 (s.queue.refusals + 1) } })) ∧
    (Sys2Proof.Claims.pedalIsDue r → r.interval = 1 →
      (s.queue.records.length ≤ 95 →
        exec (.pedalIntervalExpiry p) s =
          .next ((observeLive ev (enqueue ev (s.setPedal p { r with interval := 0 }))).setPedal p sent)) ∧
      (96 ≤ s.queue.records.length → exec (.pedalIntervalExpiry p) s =
        .next { s.setPedal p { r with interval := 0 } with
          queue := { s.queue with refusals := min 65535 (s.queue.refusals + 1) } })) ∧
    (¬ Sys2Proof.Claims.pedalIsDue r → r.interval = 1 → exec (.pedalIntervalExpiry p) s = .next (s.setPedal p { r with
      interval := 0, lastSent := if r.awaiting = false ∧ r.lastSent = none then some 0 else r.lastSent }))) ∧
  (∀ (raw : Nat) (r : PedalRecord),
    let p := normalise r.cal.rest r.cal.bottom raw
    let y (i : Nat) : Int := (r.cal.map.toList.getD i 0 : Nat)
    (raw = 0 ∨ raw = 4095 → pedalSample raw r = r) ∧
    (1 ≤ raw → raw ≤ 4094 → pedalSample raw r = { r with
      awaiting := false
      value := (y (p / 64) + ((y (p / 64 + 1) - y (p / 64)) * ((p : Int) - 64 * (p / 64 : Nat))).tdiv 64).toNat })) ∧
  (∀ s : State,
    let e := Sys2Proof.Claims.engageAfter s.pedalUnit.sostenuto (s.pedal 1).value
    let t := updateSostenuto s
    t.pedalUnit = { s.pedalUnit with sostenuto := e } ∧
    (∀ k, t.key k = { s.key k with member :=
      if s.pedalUnit.sostenuto = .released ∧ e = .engaged then decide ((s.key k).note = .active ∨ (s.key k).note = .held)
      else (s.key k).member }) ∧
    t = { s with tracker := { s.tracker with keys := t.tracker.keys }, pedalUnit := t.pedalUnit }) ∧
  (∀ s : State, s.queue.refusals ≤ 65535 →
    let e := Sys2Proof.Claims.engageAfter s.pedalUnit.damper (s.pedal 0).value
    let rests (members : Bool) (k : KeyIdx) : Bool :=
      decide ((s.key k).note = .held ∧ (s.key k).motion = .rest ∧ (s.key k).member = members)
    (updateDamper s).pedalUnit = { s.pedalUnit with damper := e } ∧
    Sys2Proof.Claims.released (if s.pedalUnit.damper = .engaged ∧ e = .released then (List.finRange 88).filter (rests false)
      else []) false s (updateDamper s) ∧
    (sostenutoRelease s).pedalUnit = s.pedalUnit ∧
    Sys2Proof.Claims.released (if s.pedalUnit.damper = .released then (List.finRange 88).filter (rests true) else []) true s
      (sostenutoRelease s)) ∧
  (∀ (words : List ScanWord) (s : State),
    let take (raw : Nat) (p : PedalIdx) (u : State) : State := considerPedal p (u.setPedal p (pedalSample raw (u.pedal p)))
    let one := take (sampleAt words 90) 2 (take (sampleAt words 89) 1 (take (sampleAt words 88) 0 s))
    let three := updateDamper (updateSostenuto one)
    pedalSamples words s = (if one.pedalUnit.sostenuto = .engaged ∧ (one.pedal 1).value < 48 then sostenutoRelease three
      else three))

/-! ## Calibration Unit and Settings Store -/

/-- REST_STEP, CAL_KEY_COMPLETE and the moving bottom (R62, R63, R64, R66). The 800th steady sample of an AUTO key moves its rest
toward the raw value by a sixteenth of the difference, at least 1, clamped to the bounds and left where the span would fall below
128. The 64th good sample of a counting key at REST with status IDLE makes the average its rest and the key done, or, where the
span would fall below 128, the key dropped. In both the stability state goes back; that the two commands handle their
sample in any lock state and before frame 0 is the model's choice (log 51). A good sample of an AUTO key that stays in
SOUNDING moves its bottom outward by a sixteenth of a difference above 16, the rest standing. -/
def Obligations.RestIsSteppedOrAveraged : Prop :=
  (∀ (k : KeyIdx) (raw ref : Nat) (s : State), (s.key k).cal.mode = .auto → (s.key k).cal.enabled = true →
      (s.key k).motion = .rest → (s.key k).note = .idle → (∀ a n, (s.key k).job ≠ .counting a n) →
      (s.key k).stabCount = 799 → (s.key k).stabRef = some ref → distance raw ref ≤ 8 → 1 ≤ raw → raw ≤ 4094 →
      let c := (s.key k).cal
      let diff : Int := (raw : Int) - c.rest
      let step : Int := if diff.tdiv 16 ≠ 0 then diff.tdiv 16 else if 0 < diff then 1 else -1
      let candidate := (clampInt c.restLo c.restHi (c.rest + step)).toNat
      exec (.restStep k raw) s = .next (s.setKey k { s.key k with
        cal := { c with rest := if diff = 0 ∨ distance c.bottom candidate < 128 then c.rest else candidate }
        stabRef := none
        stabCount := 0 })) ∧
  (∀ (k : KeyIdx) (raw sum : Nat) (s : State), (s.key k).cal.enabled = true → (s.key k).motion = .rest →
      (s.key k).note = .idle → (s.key k).job = .counting sum 63 → 1 ≤ raw → raw ≤ 4094 →
      let avg := (sum + raw) / 64
      (128 ≤ distance (s.key k).cal.bottom avg → exec (.calKeyComplete k raw) s = .next (s.setKey k { s.key k with
        cal := { (s.key k).cal with rest := avg }, job := .done, stabRef := none, stabCount := 0 })) ∧
      (distance (s.key k).cal.bottom avg < 128 → exec (.calKeyComplete k raw) s = .next (s.setKey k { s.key k with
        job := .dropped, stabRef := none, stabCount := 0 }))) ∧
  (∀ (k : KeyIdx) (raw : Nat) (np : FrameNo) (s : State), (s.key k).cal.enabled = true → (s.key k).cal.mode = .auto →
      (s.key k).motion = .sounding → (s.key k).lastFrame = some np → 1 ≤ raw → raw ≤ 4094 →
      let c := (s.key k).cal
      let d := normalise c.rest c.bottom raw
      let bottom : Nat :=
        if c.rest < c.bottom then (if c.bottom + 16 < raw then c.bottom + (raw - c.bottom) / 16 else c.bottom)
        else (if raw + 16 < c.bottom then c.bottom - (c.bottom - raw) / 16 else c.bottom)
      c.tRearm ≤ d → keySample k raw s = s.setKey k { s.key k with
        cal := { c with bottom := bottom }, stabRef := none, stabCount := 0, depth := d, lastFrame := some s.clock.frame
        faultRun := 0, job := match (s.key k).job with | .counting _ _ => .counting 0 0 | j => j })

/-- CALIBRATE_REST and CAL_JOB_TIMEOUT (R65, R67). With no job running, each enabled key of the range not in FAULT is counting
with sum and count 0 and its stability state back, each other key of the range is dropped, and every key outside is not listed;
the frame count is 0 and the reply counts the two; a running job refuses with WRONG_STATE, a bad range with BAD_VALUE, the range
being checked first (the model's choice, log 42). The tick that brings a running job's frame count to 4000 ends it: keys still
counting are dropped with their stability state back, and CAL_DONE carries the range, the keys done and every other key of the
range. -/
def Obligations.TheRestJobStartsAndTimesOut : Prop :=
  (∀ (tag first last : Byte) (s : State), windowOpen s = true →
      let body := [first, last]
      let rangeOk : Prop := first.toNat ≤ last.toNat ∧ last.toNat ≤ 87
      let inRange (k : KeyIdx) : Bool := decide (first.toNat ≤ k.val) && decide (k.val ≤ last.toNat)
      let counts (k : KeyIdx) : Bool := (s.key k).cal.enabled && decide ((s.key k).motion ≠ .fault)
      (¬ rangeOk → exec (.calibrateRest tag body) s = .next (appendReply 0x20 tag (.err .badValue) s)) ∧
      (rangeOk → s.cal.running = true →
        exec (.calibrateRest tag body) s = .next (appendReply 0x20 tag (.err .wrongState) s)) ∧
      (rangeOk → s.cal.running = false → ∃ t, exec (.calibrateRest tag body) s = .next t ∧
        t.cal = { s.cal with running := true, first := first.toNat, last := last.toNat, frames := 0 } ∧
        (∀ k, t.key k = if inRange k then
            (if counts k then { s.key k with job := .counting 0 0, stabRef := none, stabCount := 0 }
             else { s.key k with job := .dropped })
          else { s.key k with job := .notListed }) ∧
        t.msg = (appendReply 0x20 tag (.ok
          (leBytes 1 ((List.finRange 88).filter (fun k => inRange k && counts k)).length ++
           leBytes 1 ((List.finRange 88).filter (fun k => inRange k && !counts k)).length)) s).msg ∧
        t = { s with tracker := { s.tracker with keys := t.tracker.keys }, cal := t.cal, msg := t.msg })) ∧
  (∀ s : State, s.cal.running = true → s.cal.frames = 3999 →
      let done := ((List.finRange 88).filter (fun k => decide ((s.key k).job = .done))).length
      ∃ t, exec .calJobTimeout s = .next t ∧ t.cal = { s.cal with running := false, frames := 4000 } ∧
        (∀ k, t.key k = match (s.key k).job with
          | .counting _ _ => { s.key k with job := .dropped, stabRef := none, stabCount := 0 }
          | _ => s.key k) ∧
        t.msg = (raiseNotice .calDone (leBytes 1 s.cal.first ++ leBytes 1 s.cal.last ++ leBytes 1 done ++
          leBytes 1 (s.cal.last + 1 - s.cal.first - done)) s).msg ∧
        t = { s with tracker := { s.tracker with keys := t.tracker.keys }, cal := t.cal, msg := t.msg })

/-- The number of keys in FAULT that a list does not hold (R69). -/
def Sys2Proof.Claims.unlisted (s : State) : Nat :=
  ((List.finRange 88).filter (fun k => decide ((s.key k).motion = .fault ∧ k ∉ s.cal.faultList))).length

/-- FAULT_CLEAR (R70): each named key in FAULT (255 names all) is at REST awaiting its first sample, with its fault run and
stability state back, and out of the Fault List; every other key is unchanged; the overflow flag clears when no FAULT key
remains unlisted; the reply counts. Another value is refused with BAD_VALUE. -/
def Obligations.FaultClearReturnsKeys : Prop :=
  ∀ (tag v : Byte) (s : State), windowOpen s = true →
    let cleared (k : KeyIdx) : Bool := (decide (v.toNat = 255) || decide (k.val = v.toNat)) && decide ((s.key k).motion = .fault)
    (88 ≤ v.toNat → v.toNat ≠ 255 → exec (.faultClear tag [v]) s = .next (appendReply 0x22 tag (.err .badValue) s)) ∧
    (v.toNat < 88 ∨ v.toNat = 255 → ∃ t, exec (.faultClear tag [v]) s = .next t ∧
      (∀ k, t.key k = if cleared k then
        { s.key k with motion := .rest, lastFrame := none, faultRun := 0, stabRef := none, stabCount := 0 } else s.key k) ∧
      t.cal.faultList = s.cal.faultList.filter (fun k => !cleared k) ∧
      t.cal.overflow = (if Sys2Proof.Claims.unlisted t = 0 then false else s.cal.overflow) ∧
      t.msg = (appendReply 0x22 tag (.ok (leBytes 1 ((List.finRange 88).filter cleared).length ++
        leBytes 1 t.cal.faultList.length ++ boolByte t.cal.overflow ++ leBytes 1 (Sys2Proof.Claims.unlisted t))) s).msg ∧
      t = { s with
        tracker := { s.tracker with keys := t.tracker.keys }
        cal := { s.cal with faultList := t.cal.faultList, overflow := t.cal.overflow }
        msg := t.msg })

/-- FAULT_LIST_READ (R71). -/
def Obligations.FaultListReadReturnsTheList : Prop :=
  ∀ (tag : Byte) (body : List Byte) (s : State), windowOpen s = true →
    (body ≠ [] → exec (.faultListRead tag body) s = .next (appendReply 0x21 tag (.err .badLength) s)) ∧
    exec (.faultListRead tag []) s = .next (appendReply 0x21 tag (.ok (leBytes 1 s.cal.faultList.length ++
      s.cal.faultList.flatMap (fun k => leBytes 1 k.val) ++ boolByte s.cal.overflow ++
      leBytes 1 (Sys2Proof.Claims.unlisted s))) s)

/-- The fields of a KEY_CAL_WRITE fit their widths: 2 bytes each, the trim a signed byte (R59). -/
def Sys2Proof.Claims.fitsBody (c : KeyCal) : Prop :=
  c.rest < 65536 ∧ c.bottom < 65536 ∧ c.tOff < 65536 ∧ c.tStart < 65536 ∧ c.tRearm < 65536 ∧ c.tStrike < 65536 ∧
    c.curve < 256 ∧ -128 ≤ c.trim ∧ c.trim ≤ 127 ∧ c.restLo < 65536 ∧ c.restHi < 65536

/-- Checks 2 and 3 of R59 pass. -/
def Sys2Proof.Claims.linesPass (c : KeyCal) : Prop :=
  c.curve ≤ 3 ∧ c.tOff ≤ 1023 ∧ c.tStart ≤ 1023 ∧ c.tRearm ≤ 1023 ∧ c.tStrike ≤ 1023 ∧ c.restLo ≤ c.restHi ∧
    c.restHi ≤ 4095 ∧ c.tOff < c.tStart ∧ c.tStart < c.tRearm ∧ c.tRearm < c.tStrike ∧ c.tStart + 64 ≤ c.tStrike ∧
    c.tRearm + 32 ≤ c.tStrike

/-- KEY_CAL_WRITE (R59, R60): the checks in order, then the part stored with its trim clamped and, for an AUTO key, its rest
and bottom kept; the key awaits its first sample; a key newly disabled loses its flight timer and mark; a counting key counts
anew or, disabled, is dropped (R66). -/
def Obligations.KeyCalWriteStoresThePart : Prop :=
  ∀ (tag : Byte) (k : KeyIdx) (c : KeyCal) (s : State), windowOpen s = true → Sys2Proof.Claims.fitsBody c →
    let i : Instr := .keyCalWrite tag (leBytes 1 k.val ++ keyCalBytes c)
    let r := s.key k
    let spanPass : Prop := r.cal.mode = .auto ∨ (c.rest ≤ 4095 ∧ c.bottom ≤ 4095 ∧ 128 ≤ distance c.bottom c.rest)
    let stored : KeyCal := { c with
      trim := clampInt (-16) 15 c.trim
      rest := if r.cal.mode = .auto then r.cal.rest else c.rest
      bottom := if r.cal.mode = .auto then r.cal.bottom else c.bottom }
    let off : Bool := r.cal.enabled && !c.enabled
    (¬ (Sys2Proof.Claims.linesPass c ∧ spanPass) → exec i s = .next (appendReply 0x10 tag (.err .badValue) s)) ∧
    (Sys2Proof.Claims.linesPass c → spanPass → r.motion ≠ .rest ∨ r.note ≠ .idle →
      exec i s = .next (appendReply 0x10 tag (.err .keyBusy) s)) ∧
    (Sys2Proof.Claims.linesPass c → spanPass → r.motion = .rest → r.note = .idle →
      exec i s = .next (appendReply 0x10 tag
        (.ok (leBytes 1 k.val ++ keyCalBytes stored ++ boolByte (decide (r.cal.mode = .auto)) ++
          boolByte (decide (c.trim < -16 ∨ 15 < c.trim))))
        (s.setKey k { r with
          cal := stored
          lastFrame := none
          stabRef := none
          stabCount := 0
          flight := if off then 0 else r.flight
          mark := if off then none else r.mark
          job := match r.job with
            | .counting _ _ => if c.enabled then .counting 0 0 else .dropped
            | j => j })))

/-- NV_SAVE and NV_DONE (R73, R74): a save copies the working settings, erases the marker and enters SAVING, or is refused with
NV_BUSY while one is under way; its completion, due from the first to the 2,400th frame (log 33), leaves the store valid with that
image, or invalid, IDLE, with NV_DONE. -/
def Obligations.SaveLeavesTheStoreValidOrInvalid : Prop :=
  ∀ (tag : Byte) (ok : Bool) (s : State),
    (windowOpen s = true → s.store.saving = true →
      exec (.nvSave tag []) s = .next (appendReply 0x23 tag (.err .nvBusy) s)) ∧
    (windowOpen s = true → s.store.saving = false → exec (.nvSave tag []) s = .next (appendReply 0x23 tag (.ok []) { s with
      store := { s.store with saveImage := workingSettings s, valid := false, saving := true, saveFrames := 0 } })) ∧
    (s.store.saving = true → 1 ≤ s.store.saveFrames → s.store.saveFrames ≤ 2400 → exec (.nvDone ok) s =
      .next (raiseNotice .nvDone ((if ok then leBytes 1 0 else leBytes 1 1) ++ leBytes 2 s.store.saveFrames) { s with
        store := { s.store with
          image := if ok then s.store.saveImage else s.store.image, valid := ok, saving := false, saveFrames := 0 } }))

/-- NV_RESTORE (R76): with the store IDLE, no job running and every key at REST with status IDLE, the settings of the valid
image, else the factory's, are loaded, every key awaits its first sample, and the source is recorded; else NV_BUSY or
WRONG_STATE, of which NV_BUSY comes first (the model's choice, log 42). -/
def Obligations.RestoreLoadsTheSettings : Prop :=
  ∀ (tag : Byte) (s : State), windowOpen s = true →
    let quiet : Prop := s.cal.running = false ∧ ∀ k : KeyIdx, (s.key k).motion = .rest ∧ (s.key k).note = .idle
    (s.store.saving = true → exec (.nvRestore tag []) s = .next (appendReply 0x24 tag (.err .nvBusy) s)) ∧
    (s.store.saving = false → ¬ quiet → exec (.nvRestore tag []) s = .next (appendReply 0x24 tag (.err .wrongState) s)) ∧
    (s.store.saving = false → quiet → ∃ t, exec (.nvRestore tag []) s = .next t ∧
      workingSettings t = (if s.store.valid then s.store.image else factorySettings) ∧
      t.store = { s.store with source := if s.store.valid then .stored else .factory } ∧
      (∀ k, (t.key k).lastFrame = none ∧ (t.key k).stabRef = none ∧ (t.key k).stabCount = 0 ∧
        (t.key k).motion = .rest ∧ (t.key k).note = .idle ∧ (t.key k).depth = (s.key k).depth) ∧
      (∀ p, t.pedal p = { s.pedal p with cal := (t.pedal p).cal }) ∧
      t.msg = (appendReply 0x24 tag (.ok (if s.store.valid then [0] else [1])) s).msg ∧
      t.queue = s.queue ∧ t.memory = s.memory ∧ t.recorder = s.recorder ∧ t.player = s.player ∧ t.scan = s.scan ∧
      t.cal = s.cal ∧ t.rail = { s.rail with config := t.rail.config } ∧
      t.mixer = { s.mixer with tableL := t.mixer.tableL, tableR := t.mixer.tableR })

/-! ## Settings of the Key Tracker and the pedals -/

/-- CURVE_WRITE (R32, R33): the values go to consecutive entries from the start index, 255 followed by 0, each 0 stored as 1 and
each above 127 as 127; every other entry, every other curve and the Settings Store are unchanged; the reply counts. A curve number
above 3 and a body length outside 3..234 are refused and store nothing, the length being checked first (the model's choice, log
42). -/
def Obligations.CurveWriteStoresClamped : Prop :=
  ∀ (tag n start : Byte) (vals body : List Byte) (s : State), windowOpen s = true → 1 ≤ vals.length → vals.length ≤ 232 →
    let i : Instr := .curveWrite tag (n :: start :: vals)
    (body.length < 3 ∨ 234 < body.length →
      exec (.curveWrite tag body) s = .next (appendReply 0x13 tag (.err .badLength) s)) ∧
    (3 < n.toNat → exec i s = .next (appendReply 0x13 tag (.err .badValue) s)) ∧
    (n.toNat ≤ 3 → ∃ t, exec i s = .next t ∧
      (∀ (j : Nat) (h : j < vals.length),
        curveEntry t.tracker.curves n.toNat ((start.toNat + j) % 256) = clampNat 1 127 (vals[j]).toNat) ∧
      (∀ e < 256, (∀ j < vals.length, e ≠ (start.toNat + j) % 256) →
        curveEntry t.tracker.curves n.toNat e = curveEntry s.tracker.curves n.toNat e) ∧
      (∀ m < 4, m ≠ n.toNat → ∀ e < 256, curveEntry t.tracker.curves m e = curveEntry s.tracker.curves m e) ∧
      t.msg = (appendReply 0x13 tag (.ok (leBytes 1 n.toNat ++ leBytes 1 vals.length ++
        leBytes 1 (vals.filter (fun v => decide (v.toNat = 0 ∨ 127 < v.toNat))).length ++
        leBytes 1 ((start.toNat + vals.length) % 256))) s).msg ∧
      t = { s with tracker := { s.tracker with curves := t.tracker.curves }, msg := t.msg })

/-- CURVE_READ (R34): the entries from the start index, or a refusal, the length being checked first (the model's choice, log
42). -/
def Obligations.CurveReadReturnsEntries : Prop :=
  ∀ (tag : Byte) (body : List Byte) (n start count : Byte) (s : State), windowOpen s = true →
    (body.length ≠ 3 → exec (.curveRead tag body) s = .next (appendReply 0x14 tag (.err .badLength) s)) ∧
    (3 < n.toNat ∨ count.toNat = 0 ∨ 232 < count.toNat →
      exec (.curveRead tag [n, start, count]) s = .next (appendReply 0x14 tag (.err .badValue) s)) ∧
    (n.toNat ≤ 3 → 1 ≤ count.toNat → count.toNat ≤ 232 →
      exec (.curveRead tag [n, start, count]) s = .next (appendReply 0x14 tag (.ok ([n, start, count] ++
        (List.range count.toNat).map (fun j => BitVec.ofNat 8
          (curveEntry s.tracker.curves n.toNat ((start.toNat + j) % 256))))) s))

/-- TRACK_CONFIG (R39, R40): 7 bytes store the four settings, each clamped to its range, and tell which were clamped; an empty
body reads them; values in range that are in force already change nothing. -/
def Obligations.TrackConfigStoresClamped : Prop :=
  ∀ (tag : Byte) (limit frames line split : Nat) (body : List Byte) (s : State), windowOpen s = true → limit < 65536 →
    frames < 65536 → line < 65536 → split < 256 →
    let i : Instr := .trackConfig tag (leBytes 2 limit ++ leBytes 2 frames ++ leBytes 2 line ++ leBytes 1 split)
    let set : TrackSettings :=
      { travelLimit := clampNat 64 43520 limit, flightFrames := clampNat 80 2000 frames
        clearanceLine := clampNat 1 1023 line, splitKey := min 88 split }
    exec i s = .next (appendReply 0x15 tag (.ok (leBytes 2 set.travelLimit ++ leBytes 2 set.flightFrames ++
      leBytes 2 set.clearanceLine ++ leBytes 1 set.splitKey ++ boolByte (decide (limit < 64 ∨ 43520 < limit)) ++
      boolByte (decide (frames < 80 ∨ 2000 < frames)) ++ boolByte (decide (line < 1 ∨ 1023 < line)) ++
      boolByte (decide (88 < split)))) { s with tracker := { s.tracker with track := set } }) ∧
    exec (.trackConfig tag []) s = .next (appendReply 0x15 tag (.ok (leBytes 2 s.tracker.track.travelLimit ++
      leBytes 2 s.tracker.track.flightFrames ++ leBytes 2 s.tracker.track.clearanceLine ++
      leBytes 1 s.tracker.track.splitKey ++ [0, 0, 0, 0])) s) ∧
    (body.length ≠ 0 → body.length ≠ 7 →
      exec (.trackConfig tag body) s = .next (appendReply 0x15 tag (.err .badLength) s)) ∧
    (s.tracker.track = { travelLimit := limit, flightFrames := frames, clearanceLine := line, splitKey := split } →
      64 ≤ limit → limit ≤ 43520 → 80 ≤ frames → frames ≤ 2000 → 1 ≤ line → line ≤ 1023 → split ≤ 88 →
      ∃ t, exec i s = .next t ∧ t = { s with msg := t.msg })

/-- PEDAL_CAL_WRITE (R55): the part is stored with the deadband at most 16 and the map points at most 127, the pedal's runtime
fields and the engage states stand, and the reply counts the clamped fields; a rest or bottom above 4095 or a span below 128 is
refused. -/
def Obligations.PedalCalWriteStores : Prop :=
  ∀ (tag : Byte) (p : PedalIdx) (rest bottom : Nat) (deadband : Byte) (map : List Byte) (s : State), windowOpen s = true →
    rest < 65536 → bottom < 65536 → map.length = 17 →
    let i : Instr := .pedalCalWrite tag (leBytes 1 p.val ++ leBytes 2 rest ++ leBytes 2 bottom ++ [deadband] ++ map)
    let pass : Prop := rest ≤ 4095 ∧ bottom ≤ 4095 ∧ 128 ≤ distance bottom rest
    (¬ pass → exec i s = .next (appendReply 0x18 tag (.err .badValue) s)) ∧
    (pass → ∃ t, exec i s = .next t ∧
      t.pedal p = { s.pedal p with cal := (t.pedal p).cal } ∧ (t.pedal p).cal.rest = rest ∧
      (t.pedal p).cal.bottom = bottom ∧ (t.pedal p).cal.deadband = min 16 deadband.toNat ∧
      (t.pedal p).cal.map.toList = map.map (fun y => min 127 y.toNat) ∧
      (∀ q, q ≠ p → t.pedal q = s.pedal q) ∧
      t.msg = (appendReply 0x18 tag (.ok (leBytes 1 p.val ++ leBytes 2 rest ++ leBytes 2 bottom ++
        leBytes 1 (min 16 deadband.toNat) ++ map.map (fun y => BitVec.ofNat 8 (min 127 y.toNat)) ++
        leBytes 1 ((if 16 < deadband.toNat then 1 else 0) +
          (map.filter (fun y => decide (127 < y.toNat))).length))) s).msg ∧
      t = { s with pedalUnit := { s.pedalUnit with pedals := t.pedalUnit.pedals }, msg := t.msg })

/-- KEY_CAL_READ, KEY_STATE_READ and PEDAL_CAL_READ (R25, R42, R56, R58, R61): a range that is not of existing keys, or of more
than 8 or 16, and a pedal above 2 are refused with BAD_VALUE; else the reply gives the fields of the records as they stand, in
the order of the rules, and nothing changes. The model's choices: the presence byte before a field that may be absent (log 31),
and the widths of runs and counters (log 30). -/
def Obligations.RecordReadsReplyAndKeepState : Prop :=
  ∀ (tag first count : Byte) (p : PedalIdx) (s : State), windowOpen s = true →
    let keys : List KeyIdx := (List.finRange 88).filter (fun k =>
      decide (first.toNat ≤ k.val ∧ k.val < first.toNat + count.toNat))
    let ok (most : Nat) : Prop := first.toNat ≤ 87 ∧ 1 ≤ count.toNat ∧ count.toNat ≤ most ∧ first.toNat + count.toNat ≤ 88
    let cal (k : KeyIdx) : List Byte :=
      let r := s.key k
      let c := r.cal
      leBytes 2 c.rest ++ leBytes 2 c.bottom ++ leBytes 2 c.tOff ++ leBytes 2 c.tStart ++ leBytes 2 c.tRearm ++
        leBytes 2 c.tStrike ++ leBytes 1 c.curve ++ [BitVec.ofInt 8 c.trim] ++ leBytes 1 c.mode.code ++ leBytes 2 c.restLo ++
        leBytes 2 c.restHi ++ boolByte c.enabled ++
        (match r.stabRef with | none => [0, 0, 0] | some v => [1] ++ leBytes 2 v) ++ leBytes 2 r.stabCount ++
        leBytes 1 r.job.code
    let runtime (k : KeyIdx) : List Byte :=
      let r := s.key k
      leBytes 1 r.motion.code ++ leBytes 1 r.note.code ++ leBytes 2 r.depth ++
        leBytes 1 (match r.lastVelocity with | none => 0 | some v => v) ++ leBytes 2 r.flight ++ leBytes 1 r.faultRun ++
        leBytes 1 r.part ++ boolByte r.member ++ boolByte r.cal.enabled ++ boolByte (decide (r.lastFrame = none))
    let q := s.pedal p
    let members : List KeyIdx := (List.finRange 88).filter (fun k => (s.key k).member)
    (¬ ok 8 → exec (.keyCalRead tag [first, count]) s = .next (appendReply 0x11 tag (.err .badValue) s)) ∧
    (ok 8 → exec (.keyCalRead tag [first, count]) s = .next (appendReply 0x11 tag (.ok (keys.flatMap cal)) s)) ∧
    (¬ ok 16 → exec (.keyStateRead tag [first, count]) s = .next (appendReply 0x12 tag (.err .badValue) s)) ∧
    (ok 16 → exec (.keyStateRead tag [first, count]) s = .next (appendReply 0x12 tag (.ok (leBytes 1 s.scan.lock.code ++
      leBytes 2 s.scan.errors ++ leBytes 1 s.scan.badRun ++ leBytes 1 s.scan.goodRun ++
      leBytes 1 s.tracker.flightSet.length ++ leBytes 1 s.tracker.deepCount ++ keys.flatMap runtime)) s)) ∧
    (2 < first.toNat → exec (.pedalCalRead tag [first]) s = .next (appendReply 0x19 tag (.err .badValue) s)) ∧
    exec (.pedalCalRead tag (leBytes 1 p.val)) s = .next (appendReply 0x19 tag (.ok (leBytes 1 p.val ++
      leBytes 2 q.cal.rest ++ leBytes 2 q.cal.bottom ++ leBytes 1 q.cal.deadband ++
      q.cal.map.toList.flatMap (leBytes 1) ++ boolByte q.awaiting ++ leBytes 1 q.value ++
      (match q.lastSent with | none => [0, 0] | some v => [1] ++ leBytes 1 v) ++ leBytes 2 q.interval ++
      leBytes 1 s.pedalUnit.damper.code ++ leBytes 1 s.pedalUnit.sostenuto.code ++ leBytes 1 members.length ++
      members.flatMap (fun k => leBytes 1 k.val))) s)

/-! ## Rail Controller -/

/-- The live gate for a rail at its acoustic end, or waiting to leave it, and for any other (R111). -/
def Sys2Proof.Claims.liveGate (monitor acoustic : Bool) : Gate :=
  if monitor then .opened else if acoustic then .closed else .opened

/-- The release mode of an end as a driver mode, COAST for no end (R92). -/
def Sys2Proof.Claims.releaseDriver (c : RailConfig) : RailOrigin → Driver
  | .acoustic => c.acousticMode.driver
  | .silent => c.silentMode.driver
  | .unknown => .coast

/-- The four conditions of the interlock (R97). -/
def Sys2Proof.Claims.clear (s : State) : Prop :=
  s.tracker.flightSet = [] ∧ s.tracker.deepCount = 0 ∧ s.scan.lock = .locked ∧ s.cal.overflow = false

/-- The switches as latched and the interlock as evaluated at a tick (R93, R97). -/
def Sys2Proof.Claims.examined (sw : Switches) (satisfied : Bool) (s : State) : State :=
  { s with rail := { s.rail with
      acousticSwitch := sw.acoustic, silentSwitch := sw.silent
      eval := { satisfied := satisfied, flightSize := s.tracker.flightSet.length, deep := s.tracker.deepCount
                lock := s.scan.lock, overflow := s.cal.overflow } } }

/-- A rail after a change, with the gate handed to the Mixer (R111). -/
def Sys2Proof.Claims.withRail (s : State) (r : Rail) (g : Gate) : State :=
  { s with rail := { r with gate := g }, mixer := { s.mixer with gate := g } }

/-- Entry into WAITING (R99, R92, R111). -/
def Sys2Proof.Claims.waiting (origin : RailOrigin) (target : RailEnd) (driver : Driver) (s : State) : State :=
  Sys2Proof.Claims.withRail s { s.rail with
    state := .waiting, origin := some origin, target := some target, next := none, reason := none, driver := driver
    clearance := 8 * s.rail.config.clearTimeout, motion := 0, pause := 0, pauseCount := 0, startLimit := 0 }
    (Sys2Proof.Claims.liveGate s.rail.monitor (decide (origin = .acoustic)))

/-- The data of RAIL_DONE (R110). -/
def Sys2Proof.Claims.doneData (result : Nat) (st : RailState) (pauses driving pause : Nat) : List Byte :=
  leBytes 1 result ++ leBytes 1 st.code ++ leBytes 1 pauses ++ leBytes 2 driving ++ leBytes 3 pause

/-- RAIL_MOVE (R98, R99): the table by rail state and target, with the reply's outcome (0 ALREADY, 1 WAITING, 2 CANCELLED, 3
UNCHANGED, 4 RETARGETED, 5 NEXT_STORED) and rail state, and the two refusals. Before the first frame tick after a reset the
driver stays COAST (R92; the model's reading, log 21). -/
def Obligations.RailMoveFollowsTheTable : Prop :=
  ∀ (tag : Byte) (target : RailEnd) (body : List Byte) (v : Byte) (s : State), windowOpen s = true →
    let r := s.rail
    let i : Instr := .railMove tag (leBytes 1 target.code)
    let answer (outcome : Nat) (t : State) : State :=
      appendReply 0x30 tag (.ok (leBytes 1 outcome ++ leBytes 1 t.rail.state.code)) t
    let released (o : RailOrigin) : Driver := if s.clock.started then Sys2Proof.Claims.releaseDriver r.config o else .coast
    (r.state = target.state → exec i s = .next (answer 0 s)) ∧
    (r.state = .acoustic → target = .silent →
      exec i s = .next (answer 1 (Sys2Proof.Claims.waiting .acoustic target (released .acoustic) s))) ∧
    (r.state = .silent → target = .acoustic →
      exec i s = .next (answer 1 (Sys2Proof.Claims.waiting .silent target (released .silent) s))) ∧
    (r.state = .unknown ∨ r.state = .railFault →
      exec i s = .next (answer 1 (Sys2Proof.Claims.waiting .unknown target .coast s))) ∧
    (r.state = .waiting → r.origin = some target.origin →
      exec i s = .next (answer 2 (raiseNotice .railDone (Sys2Proof.Claims.doneData 1 target.state 0 0 0)
        (Sys2Proof.Claims.withRail s { r with state := target.state, origin := none, target := none, clearance := 0 }
          (Sys2Proof.Claims.liveGate r.monitor (decide (target = .acoustic))))))) ∧
    (r.state = .waiting → r.origin ≠ some target.origin → r.target = some target → exec i s = .next (answer 3 s)) ∧
    (r.state = .waiting → r.origin = some .unknown → r.target ≠ some target →
      exec i s = .next (answer 4 (Sys2Proof.Claims.withRail s { r with target := some target }
        (Sys2Proof.Claims.liveGate r.monitor false)))) ∧
    (r.state = .engaging ∨ r.state = .releasing ∨ r.state = .paused → r.target = some target →
      exec i s = .next (answer 3 s)) ∧
    (r.state = .engaging ∨ r.state = .releasing ∨ r.state = .paused → r.target ≠ some target →
      exec i s = .next (answer 5 (Sys2Proof.Claims.withRail s { r with next := some target }
        (Sys2Proof.Claims.liveGate r.monitor false)))) ∧
    (1 < v.toNat → exec (.railMove tag [v]) s = .next (appendReply 0x30 tag (.err .badValue) s)) ∧
    (body.length ≠ 1 → exec (.railMove tag body) s = .next (appendReply 0x30 tag (.err .badLength) s))

/-- RAIL_CONFIG (R96) stores the five settings with the two times clamped, tells which were clamped, and refuses a release mode
above 2 or a fault mode above 1; an empty body reads. Only the configuration changes. -/
def Obligations.RailConfigStoresClamped : Prop :=
  ∀ (tag : Byte) (limit timeout : Nat) (silent acoustic fault : Byte) (body : List Byte) (s : State), windowOpen s = true →
    limit < 65536 → timeout < 65536 →
    let i : Instr := .railConfig tag (leBytes 2 limit ++ leBytes 2 timeout ++ [silent, acoustic, fault])
    let mode (b : Byte) : ReleaseMode := if b.toNat = 0 then .coast else if b.toNat = 1 then .brake else .hold
    let stored : RailConfig :=
      { motionLimit := clampNat 100 4000 limit, clearTimeout := clampNat 100 10000 timeout
        silentMode := mode silent, acousticMode := mode acoustic
        faultMode := if fault.toNat = 0 then .coast else .brake }
    let bytes (c : RailConfig) : List Byte := leBytes 2 c.motionLimit ++ leBytes 2 c.clearTimeout ++
      leBytes 1 c.silentMode.code ++ leBytes 1 c.acousticMode.code ++ leBytes 1 c.faultMode.code
    (2 < silent.toNat ∨ 2 < acoustic.toNat ∨ 1 < fault.toNat →
      exec i s = .next (appendReply 0x31 tag (.err .badValue) s)) ∧
    (silent.toNat ≤ 2 → acoustic.toNat ≤ 2 → fault.toNat ≤ 1 → exec i s = .next (appendReply 0x31 tag
      (.ok (bytes stored ++ boolByte (decide (limit < 100 ∨ 4000 < limit)) ++
        boolByte (decide (timeout < 100 ∨ 10000 < timeout))))
      { s with rail := { s.rail with config := stored } })) ∧
    exec (.railConfig tag []) s = .next (appendReply 0x31 tag (.ok (bytes s.rail.config ++ [0, 0])) s) ∧
    (body.length ≠ 0 → body.length ≠ 7 → exec (.railConfig tag body) s = .next (appendReply 0x31 tag (.err .badLength) s))

/-- RAIL_MONITOR (R112): 1 sets and 0 clears the monitor flag, the live gate follows and is handed to the Mixer, the reply gives
both; an empty body reads; anything else is refused. Neither the motion, nor the interlock, nor the settings a save copies
change, and both resets leave the flag clear. -/
def Obligations.RailMonitorSetsTheFlag : Prop :=
  ∀ (tag v : Byte) (body : List Byte) (sw : Switches) (s : State),
    let atAcoustic : Bool := decide (s.rail.state = .acoustic ∨ (s.rail.state = .waiting ∧ s.rail.origin = some .acoustic))
    let on : Bool := decide (v.toNat = 1)
    let t := { s with
      rail := { s.rail with monitor := on, gate := Sys2Proof.Claims.liveGate on atAcoustic }
      mixer := { s.mixer with gate := Sys2Proof.Claims.liveGate on atAcoustic } }
    (windowOpen s = true →
      (v.toNat ≤ 1 → exec (.railMonitor tag [v]) s =
        .next (appendReply 0x33 tag (.ok (boolByte on ++ leBytes 1 (Sys2Proof.Claims.liveGate on atAcoustic).code)) t)) ∧
      (1 < v.toNat → exec (.railMonitor tag [v]) s = .next (appendReply 0x33 tag (.err .badValue) s)) ∧
      exec (.railMonitor tag []) s =
        .next (appendReply 0x33 tag (.ok (boolByte s.rail.monitor ++ leBytes 1 s.rail.gate.code)) s) ∧
      (1 < body.length → exec (.railMonitor tag body) s = .next (appendReply 0x33 tag (.err .badLength) s))) ∧
    workingSettings t = workingSettings s ∧ interlockNow t = interlockNow s ∧
    (∀ u, exec (.pinReset sw) s = .next u → u.rail.monitor = false) ∧
    (∀ u, s.msg.resetDue = true → exec (.softReset sw) s = .next u → u.rail.monitor = false)

/-- Arrival at `target` with the switches and the interlock examined (R106, R110, R100): the end state, RAIL_DONE(ARRIVED) with
the pauses, driving time and pause time, and a stored next target beginning a new WAITING. -/
def Sys2Proof.Claims.arrived (sw : Switches) (satisfied : Bool) (target : RailEnd) (s : State) : State :=
  let r := s.rail
  let d := Sys2Proof.Claims.releaseDriver r.config target.origin
  let at_ := Sys2Proof.Claims.examined sw satisfied s
  let u := raiseNotice .railDone
    (Sys2Proof.Claims.doneData 0 target.state r.pauseCount (r.startLimit - r.motion) r.pause)
    (Sys2Proof.Claims.withRail at_
      { at_.rail with state := target.state, origin := none, target := none, next := none, driver := d }
      (Sys2Proof.Claims.liveGate r.monitor (decide (target = .acoustic))))
  match r.next with
  | none => u
  | some n => Sys2Proof.Claims.waiting target.origin n d u

/-- The switch of an end. -/
def Sys2Proof.Claims.endSwitch (sw : Switches) : RailEnd → Bool | .acoustic => sw.acoustic | .silent => sw.silent

/-- The driving state and driver mode toward a target (R103). -/
def Sys2Proof.Claims.driving (target : RailEnd) (r : Rail) : Rail :=
  match target with
  | .silent => { r with state := .engaging, driver := .driveIn }
  | .acoustic => { r with state := .releasing, driver := .driveOut }

/-- The end of a wait (R102, R103): with the interlock satisfied RAIL_START drives toward the target, or arrives at once where the
target's switch is asserted, the clearance timer then kept as it stands (the model's choice, log 20); with it unsatisfied
CLEAR_TIMEOUT, due at a clearance timer of 1, returns the rail to its origin with RAIL_DONE(CLEAR_TIMEOUT), and the work of a tick
at which the timer stands higher counts it down by 1 and sets the driver again. -/
def Obligations.WaitEndsInAStartAnArrivalOrATimeout : Prop :=
  ∀ (sw : Switches) (origin : RailOrigin) (target : RailEnd) (s : State), s.clock.started = true →
    s.rail.state = .waiting → s.rail.origin = some origin → s.rail.target = some target →
    (sw.acoustic && sw.silent) = false →
    let r := s.rail
    (Sys2Proof.Claims.clear s → Sys2Proof.Claims.endSwitch sw target = false →
      let at_ := Sys2Proof.Claims.examined sw true s
      exec (.railStart sw) s = .next (Sys2Proof.Claims.withRail at_ (Sys2Proof.Claims.driving target { at_.rail with
        origin := none, clearance := 0, motion := 8 * r.config.motionLimit, startLimit := 8 * r.config.motionLimit })
        .opened)) ∧
    (Sys2Proof.Claims.clear s → Sys2Proof.Claims.endSwitch sw target = true →
      exec (.railStart sw) s = .next (Sys2Proof.Claims.arrived sw true target s)) ∧
    (¬ Sys2Proof.Claims.clear s → r.clearance = 1 →
      let at_ := Sys2Proof.Claims.examined sw false s
      exec (.clearTimeout sw) s = .next (raiseNotice .railDone (Sys2Proof.Claims.doneData 2 origin.state 0 0 0)
        (Sys2Proof.Claims.withRail at_ { at_.rail with
          state := origin.state, origin := none, target := none, clearance := 0
          driver := Sys2Proof.Claims.releaseDriver r.config origin }
          (Sys2Proof.Claims.liveGate r.monitor (decide (origin = .acoustic)))))) ∧
    (¬ Sys2Proof.Claims.clear s → 1 < r.clearance →
      let at_ := Sys2Proof.Claims.examined sw false s
      runWork (.rail sw) s = (none, { at_ with rail := { at_.rail with
        clearance := r.clearance - 1, driver := Sys2Proof.Claims.releaseDriver r.config origin } }))

/-- Entry into RAIL_FAULT (R108, R110), `b` being the notice's byte of target and latch. -/
def Sys2Proof.Claims.faulted (reason : RailReason) (b : Byte) (s : State) : State :=
  let n := raiseNotice .railFault (leBytes 1 reason.code ++ leBytes 1 s.rail.state.code ++ [b] ++ leBytes 2 s.rail.motion ++
    leBytes 3 s.rail.pause) { s with free := s.free + 1 }
  Sys2Proof.Claims.withRail n { n.rail with
    state := .railFault, reason := some reason, origin := none, target := none, next := none, clearance := 0
    driver := match n.rail.config.faultMode with | .coast => .coast | .brake => .brake } .opened

/-- The stated bits of the target and latch byte of RAIL_FAULT (R110, R180); its bits 2 to 5 stand free (log 26). -/
def Sys2Proof.Claims.latchByte (b : Byte) (target : Option RailEnd) (sw : Switches) : Prop :=
  b.toNat % 4 = (match target with | some .acoustic => 0 | some .silent => 1 | none => 3) ∧
    b.getLsbD 6 = sw.acoustic ∧ b.getLsbD 7 = sw.silent

/-- A move under way (R104 to R107): it arrives where its target's switch is asserted, from ENGAGING, RELEASING and PAUSED; a tick
or a scan-frame evaluation that finds the interlock unsatisfied pauses a driving rail, with the driver at BRAKE; it stalls when
the motion timer of a driving rail runs out; a pause ends in a resume when the interlock holds, and in BLOCKED when the pause
timer comes to exceed the clearance timeout in force. A tick at which none of these falls due counts the motion timer of a driving
rail down by 1, and the pause timer of a PAUSED one up by 1. A scan-frame evaluation does nothing else (R97). That an arriving
tick stores a fresh evaluation is the model's choice (log 19). -/
def Obligations.AMoveArrivesStallsResumesOrIsBlocked : Prop :=
  ∀ (sw : Switches) (target : RailEnd) (s : State), s.clock.started = true → s.rail.target = some target →
    (sw.acoustic && sw.silent) = false →
    let r := s.rail
    let drives : Prop := r.state = .engaging ∨ r.state = .releasing
    let there := Sys2Proof.Claims.endSwitch sw target
    let paused (u : State) : State := Sys2Proof.Claims.withRail u
      { u.rail with state := .paused, driver := .brake, pauseCount := min 255 (r.pauseCount + 1) } .opened
    let kept : Switches := { acoustic := r.acousticSwitch, silent := r.silentSwitch }
    (drives ∨ r.state = .paused → there = true →
      (Sys2Proof.Claims.clear s → exec (.railArrival sw) s = .next (Sys2Proof.Claims.arrived sw true target s)) ∧
      (¬ Sys2Proof.Claims.clear s → exec (.railArrival sw) s = .next (Sys2Proof.Claims.arrived sw false target s))) ∧
    (drives → there = false → ¬ Sys2Proof.Claims.clear s →
      runWork (.rail sw) s = (none, paused (Sys2Proof.Claims.examined sw false s))) ∧
    (drives → ¬ Sys2Proof.Claims.clear s → railScanEval s = paused (Sys2Proof.Claims.examined kept false s)) ∧
    (¬ drives → ¬ Sys2Proof.Claims.clear s → railScanEval s = Sys2Proof.Claims.examined kept false s) ∧
    (Sys2Proof.Claims.clear s → railScanEval s = Sys2Proof.Claims.examined kept true s) ∧
    (drives → there = false → Sys2Proof.Claims.clear s → r.motion = 1 →
      let at_ := Sys2Proof.Claims.examined sw true s
      ∃ b, Sys2Proof.Claims.latchByte b (some target) sw ∧ exec (.railStall sw) s =
        .next (Sys2Proof.Claims.faulted .stall b { at_ with rail := { at_.rail with motion := 0 } })) ∧
    (r.state = .paused → there = false → Sys2Proof.Claims.clear s →
      let at_ := Sys2Proof.Claims.examined sw true s
      exec (.railResume sw) s =
        .next (Sys2Proof.Claims.withRail at_ (Sys2Proof.Claims.driving target at_.rail) .opened)) ∧
    (r.state = .paused → there = false → ¬ Sys2Proof.Claims.clear s → 8 * r.config.clearTimeout ≤ r.pause →
      let at_ := Sys2Proof.Claims.examined sw false s
      ∃ b, Sys2Proof.Claims.latchByte b (some target) sw ∧ exec (.railBlocked sw) s =
        .next (Sys2Proof.Claims.faulted .blocked b { at_ with rail := { at_.rail with pause := r.pause + 1 } })) ∧
    (drives → there = false → Sys2Proof.Claims.clear s → 1 < r.motion →
      let at_ := Sys2Proof.Claims.examined sw true s
      runWork (.rail sw) s = (none, { at_ with rail := { at_.rail with motion := r.motion - 1 } })) ∧
    (r.state = .paused → there = false → ¬ Sys2Proof.Claims.clear s → r.pause < 8 * r.config.clearTimeout →
      let at_ := Sys2Proof.Claims.examined sw false s
      runWork (.rail sw) s = (none, { at_ with rail := { at_.rail with pause := r.pause + 1 } }))

/-- Two events of the end switches. RAIL_DISPLACED (R109): a rail at an end whose own switch is not asserted takes the state its
switches show, with RAIL_DONE(DISPLACED). SWITCH_CONFLICT (R93, R108): both switches asserted place the rail in RAIL_FAULT with
that reason from every state; where it stands there with that reason already the command changes nothing (the model's choice, logs
1 and 18). At a tick with neither, a rail at an end or in RAIL_FAULT has its driver set again, and an UNKNOWN one stands (R92,
R101). The evaluation stored at a displacement, and at a tick in these states, is the model's choice too (log 19). -/
def Obligations.DisplacementAndConflictFollowTheSwitches : Prop :=
  ∀ (sw : Switches) (own : RailEnd) (satisfied : Bool) (s : State), s.clock.started = true →
    (satisfied = true ↔ Sys2Proof.Claims.clear s) →
    (s.rail.state = own.state → Sys2Proof.Claims.endSwitch sw own = false →
      let shown : RailOrigin := if sw.acoustic then .acoustic else if sw.silent then .silent else .unknown
      let at_ := Sys2Proof.Claims.examined sw satisfied s
      exec (.railDisplaced sw) s = .next (raiseNotice .railDone (Sys2Proof.Claims.doneData 3 shown.state 0 0 0)
        (Sys2Proof.Claims.withRail at_ { at_.rail with
          state := shown.state, driver := Sys2Proof.Claims.releaseDriver s.rail.config shown }
          (Sys2Proof.Claims.liveGate s.rail.monitor sw.acoustic)))) ∧
    (¬ (s.rail.state = .railFault ∧ s.rail.reason = some .switchConflict) →
      ∃ b, Sys2Proof.Claims.latchByte b s.rail.target { acoustic := true, silent := true } ∧ exec .switchConflict s =
        .next (Sys2Proof.Claims.faulted .switchConflict b
          { s with rail := { s.rail with acousticSwitch := true, silentSwitch := true } })) ∧
    (s.rail.state = .railFault → s.rail.reason = some .switchConflict → exec .switchConflict s = .next s) ∧
    ((sw.acoustic && sw.silent) = false →
      let at_ := Sys2Proof.Claims.examined sw satisfied s
      let stands (d : Driver) : Prop := runWork (.rail sw) s = (none, { at_ with rail := { at_.rail with driver := d } })
      (s.rail.state = own.state → Sys2Proof.Claims.endSwitch sw own = true →
        stands (Sys2Proof.Claims.releaseDriver s.rail.config own.origin)) ∧
      (s.rail.state = .railFault → stands (match s.rail.config.faultMode with | .coast => .coast | .brake => .brake)) ∧
      (s.rail.state = .unknown → stands s.rail.driver))

/-! ## Mixer -/

/-- A running fade in a reply: presence, target, remaining frames (R156, R178). -/
def Sys2Proof.Claims.fadeField : Option Fade → List Byte
  | none => [0, 0, 0, 0, 0]
  | some f => [1] ++ leBytes 2 f.target ++ leBytes 2 f.remaining

/-- A pending balance change in a reply: presence, target, fade frames, trigger (R156, R178). -/
def Sys2Proof.Claims.pendingField : Option PendingBalance → List Byte
  | none => [0, 0, 0, 0, 0, 0]
  | some p => [1] ++ leBytes 2 p.target ++ leBytes 2 p.frames ++ leBytes 1 p.trigger.code

/-- A pending mode in a reply: presence and code (R154, R178). -/
def Sys2Proof.Claims.modeField : Option MixMode → List Byte
  | none => [0, 0]
  | some m => [1] ++ leBytes 1 m.code

/-- MIX_MODE, MIX_BALANCE and VOLUME_SET (R154, R156, R159): a mode becomes the pending mode; alpha clamped to 0..32 and times
1024, with the fade frames clamped to 0..4095, becomes the pending change; an index clamped to 0..63 becomes the volume index;
each with its reply and nothing else changed, and a code out of range is refused. The one clamp byte of MIX_BALANCE (log 30) and
the presence bytes of pending mode, pending change and fade (log 31) are the model's choice. -/
def Obligations.MixerSettingsAreStored : Prop :=
  ∀ (tag v alpha trig : Byte) (mode : MixMode) (trigger : BalTrigger) (frames : Nat) (s : State), windowOpen s = true →
    frames < 65536 →
    let m := s.mixer
    let change : PendingBalance := { target := min 32 alpha.toNat * 1024, frames := min 4095 frames, trigger := trigger }
    let tooMuch : Bool := decide (32 < alpha.toNat ∨ 4095 < frames)
    let gains : List Byte := leBytes 2 m.targetL ++ leBytes 2 m.targetR ++ leBytes 2 m.gainL ++ leBytes 2 m.gainR
    (exec (.mixMode tag (leBytes 1 mode.code)) s = .next (appendReply 0x40 tag
      (.ok (leBytes 1 m.mode.code ++ [1] ++ leBytes 1 mode.code)) { s with mixer := { m with pendingMode := some mode } })) ∧
    (2 < v.toNat → exec (.mixMode tag [v]) s = .next (appendReply 0x40 tag (.err .badValue) s)) ∧
    (exec (.mixBalance tag ([alpha] ++ leBytes 2 frames ++ leBytes 1 trigger.code)) s = .next (appendReply 0x41 tag
      (.ok (Sys2Proof.Claims.pendingField (some change) ++ boolByte tooMuch ++ leBytes 2 m.bal ++
        Sys2Proof.Claims.fadeField m.fade)) { s with mixer := { m with pendingBal := some change } })) ∧
    (2 < trig.toNat → exec (.mixBalance tag ([alpha] ++ leBytes 2 frames ++ [trig])) s =
      .next (appendReply 0x41 tag (.err .badValue) s)) ∧
    exec (.volumeSet tag [v]) s = .next (appendReply 0x44 tag
      (.ok (leBytes 1 (min 63 v.toNat) ++ boolByte (decide (63 < v.toNat)) ++ gains))
      { s with mixer := { m with index := min 63 v.toNat } })

/-- MIX_STATUS (R165): the reply gives the state as it stands; value 1 then clears the saturation counter, value 0 changes
nothing; another value or length is refused. The click's two bytes (log 39), the presence bytes (log 31) and a length checked
before a value (log 42) are the model's choice. -/
def Obligations.MixStatusReportsAndClears : Prop :=
  ∀ (tag v : Byte) (body : List Byte) (s : State), windowOpen s = true →
    let m := s.mixer
    let report : List Byte := leBytes 1 m.mode.code ++ Sys2Proof.Claims.modeField m.pendingMode ++ leBytes 2 m.bal ++
      Sys2Proof.Claims.fadeField m.fade ++ Sys2Proof.Claims.pendingField m.pendingBal ++ leBytes 1 m.gate.code ++
      leBytes 2 m.gateGain ++ leBytes 1 m.index ++ leBytes 2 m.targetL ++ leBytes 2 m.targetR ++ leBytes 2 m.gainL ++
      leBytes 2 m.gainR ++ leBytes 2 m.weightA ++ leBytes 2 m.weightB ++
      (match m.click with | none => [0, 0] | some c => [1, if c.beatOne then 0 else 1]) ++ leBytes 2 m.saturation
    exec (.mixStatus tag [0]) s = .next (appendReply 0x45 tag (.ok report) s) ∧
    exec (.mixStatus tag [1]) s =
      .next (appendReply 0x45 tag (.ok report) { s with mixer := { m with saturation := 0 } }) ∧
    (1 < v.toNat → exec (.mixStatus tag [v]) s = .next (appendReply 0x45 tag (.err .badValue) s)) ∧
    (body.length ≠ 1 → exec (.mixStatus tag body) s = .next (appendReply 0x45 tag (.err .badLength) s))

/-- GAIN_TABLE_WRITE (R161): the values go to consecutive entries from the start index, 63 followed by 0, each above 32768 as
32768, into both tables (mode 0), the left (1) or the right (2); every other entry is unchanged; the reply counts. A mode above 2
or a start index above 63, and a body length below 4, above 130 or odd, are refused and store nothing, the length being checked
first (the model's choice, log 42). -/
def Obligations.GainTableWriteStoresClamped : Prop :=
  ∀ (tag mode start : Byte) (vals : List Nat) (body : List Byte) (s : State), windowOpen s = true → 1 ≤ vals.length →
    vals.length ≤ 64 → (∀ v ∈ vals, v < 65536) →
    let i : Instr := .gainTableWrite tag ([mode, start] ++ vals.flatMap (leBytes 2))
    (body.length < 4 ∨ 130 < body.length ∨ body.length % 2 = 1 →
      exec (.gainTableWrite tag body) s = .next (appendReply 0x42 tag (.err .badLength) s)) ∧
    (2 < mode.toNat ∨ 63 < start.toNat → exec i s = .next (appendReply 0x42 tag (.err .badValue) s)) ∧
    (mode.toNat ≤ 2 → start.toNat ≤ 63 → ∃ t, exec i s = .next t ∧
      (∀ (j : Nat) (h : j < vals.length),
        (mode.toNat ≠ 2 → tableGain t.mixer.tableL ((start.toNat + j) % 64) = min vals[j] 32768) ∧
        (mode.toNat ≠ 1 → tableGain t.mixer.tableR ((start.toNat + j) % 64) = min vals[j] 32768)) ∧
      (∀ e < 64, (∀ j < vals.length, e ≠ (start.toNat + j) % 64) →
        tableGain t.mixer.tableL e = tableGain s.mixer.tableL e ∧
        tableGain t.mixer.tableR e = tableGain s.mixer.tableR e) ∧
      (mode.toNat = 1 → t.mixer.tableR = s.mixer.tableR) ∧ (mode.toNat = 2 → t.mixer.tableL = s.mixer.tableL) ∧
      t.msg = (appendReply 0x42 tag (.ok ([mode] ++ leBytes 1 vals.length ++
        leBytes 1 (vals.filter (fun v => decide (32768 < v))).length ++
        leBytes 1 ((start.toNat + vals.length) % 64))) s).msg ∧
      t = { s with mixer := { s.mixer with tableL := t.mixer.tableL, tableR := t.mixer.tableR }, msg := t.msg })

/-- BALANCE_TRIGGER (R157): step 3 triggers a NOW change, and any change while the Player is STOPPED; a bar crossing triggers an
AT_BAR change and an end of pass an AT_SECTION change. Triggered with 0 fade frames the balance is the target at once with no
fade, else a fade begins at the balance reached; a change that is not triggered, or none pending, leaves everything. The cause is
the command's operand, taken as handed in every player state (the model's choice, log 45). -/
def Obligations.BalanceTriggerFollowsTheTable : Prop :=
  ∀ (cause : BalanceCause) (p : PendingBalance) (s : State),
    let triggered : Prop :=
      (cause = .step3 ∧ (p.trigger = .now ∨ s.player.state = .stopped)) ∨
      (cause = .barCrossing ∧ p.trigger = .atBar) ∨ (cause = .endOfPass ∧ p.trigger = .atSection)
    (s.mixer.pendingBal = some p → triggered → p.frames = 0 → exec (.balanceTrigger cause) s =
      .next { s with mixer := { s.mixer with pendingBal := none, bal := p.target, fade := none } }) ∧
    (s.mixer.pendingBal = some p → triggered → 0 < p.frames → exec (.balanceTrigger cause) s =
      .next { s with mixer := { s.mixer with
        pendingBal := none, fade := some { target := p.target, remaining := p.frames } } }) ∧
    (s.mixer.pendingBal = some p → ¬ triggered → exec (.balanceTrigger cause) s = .next s) ∧
    (s.mixer.pendingBal = none → exec (.balanceTrigger cause) s = .next s)

/-- A fade of F frames (R158) moves the balance monotonically toward its target, counts its frames down, changes nothing else of
the Mixer, and reaches the target at its F-th step exactly, when it is absent. FADE_END is its last step, and the fade step is
the piece of a frame tick's work. -/
def Obligations.AFadeReachesItsTargetExactly : Prop :=
  (∀ (m : Mixer) (target F : Nat), 1 ≤ F → m.fade = some { target := target, remaining := F } →
    (∀ n < F, (fadeStep^[n] m).fade = some { target := target, remaining := F - n } ∧
      min (fadeStep^[n] m).bal target ≤ (fadeStep^[n + 1] m).bal ∧
      (fadeStep^[n + 1] m).bal ≤ max (fadeStep^[n] m).bal target) ∧
    fadeStep^[F] m = { m with bal := target, fade := none }) ∧
  (∀ (s : State) (f : Fade), s.mixer.fade = some f → f.remaining = 1 →
    exec .fadeEnd s = .next { s with mixer := { s.mixer with bal := f.target, fade := none } }) ∧
  (∀ s : State, runWork .fade s = (none, { s with mixer := fadeStep s.mixer }))

/-- One sample of one channel (R163, R164): the two stages and the limit. -/
def Sys2Proof.Claims.sent (a b : Int) (wA wB gain : Nat) (click : Int) : Int :=
  let h := (((a * wA + b * wB + 16384) / 32768 + click) * gain + 16384) / 32768
  max (-8388608) (min 8388607 h)

/-- A sample that the limit of R164 changes. -/
def Sys2Proof.Claims.beyond (a b : Int) (wA wB gain : Nat) (click : Int) : Bool :=
  let h := (((a * wA + b * wB + 16384) / 32768 + click) * gain + 16384) / 32768
  decide (h < -8388608 ∨ 8388607 < h)

/-- The position moved to `q` by an advance (R133): the amount moves the capture clock of a recording with base PLAYER (R124); a
beat multiple passed or reached starts a click with the metronome on, of beat 1 where it is a bar's (R149, R150), and a bar
multiple triggers an AT_BAR balance change (R157). -/
def Sys2Proof.Claims.advanced (q : Nat) (s : State) : State :=
  let p := s.player
  let h := s.memory.take.header
  let unit := h.barLen / h.beats * 256
  let m := q / unit * unit
  let first : Bool := decide (m / unit % h.beats = 0)
  let click : Click :=
    { beatOne := first, amplitude := if first then 2 * p.clickLevel else p.clickLevel, next := 0, cut := false }
  let clicked : Mixer :=
    if p.pos < m ∧ p.metronome = true then { s.mixer with click := some click } else s.mixer
  let barred : Mixer :=
    if p.pos < m ∧ m % (h.barLen * 256) = 0 then
      match s.mixer.pendingBal with
      | some { target := b, frames := n, trigger := .atBar } =>
        if n = 0 then { clicked with pendingBal := none, bal := b, fade := none }
        else { clicked with pendingBal := none, fade := some { target := b, remaining := n } }
      | _ => clicked
    else clicked
  { s with
    player := { p with pos := q }
    mixer := barred
    recorder := match s.recorder.state, s.recorder.base with
      | .recording, some (.player c) => { s.recorder with base := some (.player (c + (q - p.pos))) }
      | _, _ => s.recorder }

/-- The samples of a frame, the click and CLICK_END (R149, R150, R163, R164). A frame sends, in each period and channel, the
weighted streams with the click sample added, 0 where no click is under way, then the volume, limited to 24 bits, and counts each
limited sample; a click moves on by the six samples and stays under way through the frame of its last ones. An advance below the
limit that crosses a beat starts a click, restarting one under way. CLICK_END, due once the 96 samples are formed, makes the click
silent and changes nothing else, as the next frame's samples do where no command does; so ends a click that METRONOME has cut. -/
def Obligations.ClickEndSendsTheLastSamples : Prop :=
  (∀ s : State, (∀ c, s.mixer.click = some c → c.next ≤ 90 ∧ c.cut = false) → s.mixer.tone.length = 6 →
    let m := s.mixer
    let click (p : Nat) : Int :=
      match m.click with
      | none => 0
      | some c =>
        if ((c.next + p) / (if c.beatOne then 6 else 12)) % 2 = 0 then (c.amplitude : Int) else -(c.amplitude : Int)
    let none_ : TonePeriod := { al := 0, ar := 0, bl := 0, br := 0 }
    let tone (p : Nat) : TonePeriod := m.tone.getD p none_
    ∃ t, runWork .samples s = (none, t) ∧ t.mixer.click = m.click.map (fun c => { c with next := c.next + 6 }) ∧
      t.mixer.headphone = (List.range 6).map (fun p =>
        (Sys2Proof.Claims.sent (tone p).al (tone p).bl m.weightA m.weightB m.gainL (click p),
         Sys2Proof.Claims.sent (tone p).ar (tone p).br m.weightA m.weightB m.gainR (click p))) ∧
      t.mixer.saturation = min 65535 (m.saturation +
        ((List.range 6).filter (fun p =>
          Sys2Proof.Claims.beyond (tone p).al (tone p).bl m.weightA m.weightB m.gainL (click p))).length +
        ((List.range 6).filter (fun p =>
          Sys2Proof.Claims.beyond (tone p).ar (tone p).br m.weightA m.weightB m.gainR (click p))).length) ∧
      t = { s with mixer := { m with
        click := t.mixer.click, headphone := t.mixer.headphone, saturation := t.mixer.saturation } }) ∧
  (∀ (q : Nat) (s : State),
    s.player.freePlay = true ∨ q < sectionEnd s.memory.take s.player.active * s.memory.take.header.barLen * 256 →
      advanceTo q s = Sys2Proof.Claims.advanced q s) ∧
  (∀ (c : Click) (s : State), s.mixer.click = some c → 96 ≤ c.next ∨ c.cut = true →
    (96 ≤ c.next → exec .clickEnd s = .next { s with mixer := { s.mixer with click := none } }) ∧
    (runWork .samples s).2.mixer.click = none ∧
    (runWork .samples s).2.mixer.headphone = (runWork .samples { s with mixer := { s.mixer with click := none } }).2.mixer.headphone)

/-! ## Takes and capture -/

/-- A header in a reply (R117, R178): record count, bar length, beats per bar. -/
def Sys2Proof.Claims.header (h : AreaHeader) : List Byte := leBytes 2 h.count ++ leBytes 4 h.barLen ++ leBytes 1 h.beats

/-- The bar values within the limits of R116. -/
def Sys2Proof.Claims.barsFit (barLen beats : Nat) : Prop :=
  800 ≤ barLen ∧ barLen ≤ 128000 ∧ 1 ≤ beats ∧ beats ≤ 16 ∧ barLen % beats = 0

/-- TAKE_HEADER_WRITE and PROMOTE (R117, R130). A write is refused with WRONG_STATE unless the Player is STOPPED, then with
BAD_VALUE for values out of range; accepted, the take header holds the three fields while the slots, the capture area and the
roles stand; an empty body reads both headers and the roles. With the Player STOPPED and the recorder IDLE a promotion swaps the
roles and no slot changes; the capture header becomes the take header and the new CAPTURE area has the default one; a body is
refused before the states are looked at (the model's choice, log 42). Both make the start target absent (R142). -/
def Obligations.HeadersAndRolesOfTheAreas : Prop :=
  (∀ (tag : Byte) (count barLen beats : Nat) (body : List Byte) (s : State), windowOpen s = true → count < 65536 →
      barLen < 4294967296 → beats < 256 →
      let h : AreaHeader := { count := count, barLen := barLen, beats := beats }
      let i : Instr := .takeHeaderWrite tag (Sys2Proof.Claims.header h)
      let fits : Prop := count ≤ 16384 ∧ Sys2Proof.Claims.barsFit barLen beats
      (s.player.state ≠ .stopped → exec i s = .next (appendReply 0x50 tag (.err .wrongState) s)) ∧
      (s.player.state = .stopped → ¬ fits → exec i s = .next (appendReply 0x50 tag (.err .badValue) s)) ∧
      (s.player.state = .stopped → fits → ∃ t, exec i s = .next t ∧
        t.memory.take = { s.memory.take with header := h } ∧ t.memory.capture = s.memory.capture ∧
        t.memory.takeIsArea0 = s.memory.takeIsArea0 ∧
        t = appendReply 0x50 tag (.ok (Sys2Proof.Claims.header h))
          { s with memory := t.memory, player := { s.player with startTarget := none } }) ∧
      exec (.takeHeaderWrite tag []) s = .next (appendReply 0x50 tag
        (.ok (Sys2Proof.Claims.header s.memory.take.header ++ Sys2Proof.Claims.header s.memory.capture.header ++
          (if s.memory.takeIsArea0 then [0, 1] else [1, 0]))) s) ∧
      (body.length ≠ 0 → body.length ≠ 7 →
        exec (.takeHeaderWrite tag body) s = .next (appendReply 0x50 tag (.err .badLength) s))) ∧
  (∀ (tag : Byte) (body : List Byte) (s : State), windowOpen s = true →
      let quiet : Prop := s.player.state = .stopped ∧ s.recorder.state = .idle
      (¬ quiet → exec (.promote tag []) s = .next (appendReply 0x55 tag (.err .wrongState) s)) ∧
      (quiet → ∃ t, exec (.promote tag []) s = .next t ∧
        t.memory.takeIsArea0 = !s.memory.takeIsArea0 ∧ t.memory.take = s.memory.capture ∧
        t.memory.capture = { s.memory.take with header := { count := 0, barLen := 16000, beats := 4 } } ∧
        t.memory.area0.slots = s.memory.area0.slots ∧ t.memory.area1.slots = s.memory.area1.slots ∧
        t = appendReply 0x55 tag (.ok (Sys2Proof.Claims.header s.memory.capture.header ++
            (if s.memory.takeIsArea0 then [1, 0] else [0, 1])))
          { s with memory := t.memory, player := { s.player with startTarget := none } }) ∧
      (body ≠ [] → exec (.promote tag body) s = .next (appendReply 0x55 tag (.err .badLength) s)))

/-- A take record whose fields fit their widths on the link (R181). -/
def Sys2Proof.Claims.fitsRecord (r : TakeRecord) : Prop :=
  r.delta < 65536 ∧ r.part < 256 ∧ r.key < 256 ∧ r.value < 256 ∧ r.sub < 256

/-- A take record that TAKE_WRITE accepts (R118). -/
def Sys2Proof.Claims.acceptable (r : TakeRecord) : Prop :=
  r.part ≤ 3 ∧ r.sub ≤ 15 ∧ (r.kind = .noteOn ∨ r.kind = .noteOff → r.key ≤ 87) ∧
    (r.kind = .damper ∨ r.kind = .sostenuto ∨ r.kind = .soft → r.key ≤ 2) ∧ (r.kind = .spacer → r.delta = 65535)

/-- A take record as stored: the key and value of a SPACER or END are 0 (R118). -/
def Sys2Proof.Claims.storedRecord (r : TakeRecord) : TakeRecord :=
  if r.kind = .spacer ∨ r.kind = .endMark then { r with key := 0, value := 0 } else r

/-- TAKE_WRITE (R118): while STOPPED, with the slots in range and every record acceptable, the records stand in consecutive slots
of the TAKE area, every other slot, the header, the CAPTURE area and the roles stand, the canonical form is kept, and the reply
counts; WRONG_STATE while not STOPPED; BAD_VALUE for slots out of range or an unacceptable record; BAD_LENGTH for other
lengths. -/
def Obligations.TakeWriteStoresRecords : Prop :=
  ∀ (tag : Byte) (start : Nat) (rs : List TakeRecord) (body : List Byte) (s : State), windowOpen s = true →
    Memory.wf s.memory = true → start < 65536 → 1 ≤ rs.length → rs.length ≤ 29 →
    (∀ r ∈ rs, Sys2Proof.Claims.fitsRecord r) →
    let i : Instr := .takeWrite tag (leBytes 2 start ++ rs.flatMap takeBytes)
    let good : Prop := start + rs.length ≤ 16384 ∧ ∀ r ∈ rs, Sys2Proof.Claims.acceptable r
    (s.player.state ≠ .stopped → exec i s = .next (appendReply 0x51 tag (.err .wrongState) s)) ∧
    (s.player.state = .stopped → ¬ good → exec i s = .next (appendReply 0x51 tag (.err .badValue) s)) ∧
    (s.player.state = .stopped → good → ∃ t, exec i s = .next t ∧
      (∀ (j : Nat) (h : j < rs.length),
        slotAt t.memory.take.slots (start + j) = Sys2Proof.Claims.storedRecord rs[j]) ∧
      (∀ n, n < start ∨ start + rs.length ≤ n → slotAt t.memory.take.slots n = slotAt s.memory.take.slots n) ∧
      t.memory.take.header = s.memory.take.header ∧ t.memory.capture = s.memory.capture ∧
      t.memory.takeIsArea0 = s.memory.takeIsArea0 ∧ Memory.wf t.memory = true ∧
      t = appendReply 0x51 tag
        (.ok (leBytes 1 rs.length ++ leBytes 2 (start + rs.length) ++ leBytes 2 s.memory.take.header.count))
        { s with memory := t.memory, player := { s.player with startTarget := none } }) ∧
    (body.length < 10 ∨ 234 < body.length ∨ body.length % 8 ≠ 2 →
      exec (.takeWrite tag body) s = .next (appendReply 0x51 tag (.err .badLength) s))

/-- The recorder as a recording starts (R122, R124). -/
def Sys2Proof.Claims.started (mode : RecPartMode) (pedals : Bool) (s : State) : Recorder :=
  { state := .recording, trigger := none, partMode := mode, pedals := pedals, pendingBars := none
    base := some (if s.player.state = .running then .player s.player.pos else .frames s.clock.frame)
    lastPos := 0, sounding := [], damperValue := 0, damperPart := 0 }

/-- The CAPTURE area emptied, with its new bar values (R122). -/
def Sys2Proof.Claims.emptied (barLen beats : Nat) (s t : State) : Prop :=
  t.memory.capture = { s.memory.capture with header := { count := 0, barLen := barLen, beats := beats } } ∧
    t.memory.take = s.memory.take ∧ t.memory.takeIsArea0 = s.memory.takeIsArea0

/-- The part held for a key in the captured-sounding set (R127). -/
def Sys2Proof.Claims.heldFor (set : List (Nat × Nat)) (key : Nat) : Option Nat :=
  (set.find? (fun p => decide (p.1 = key))).map (fun p => p.2)

/-- Records appended to the CAPTURE area from its record count on (R125): the slots, the count, everything else of event memory
kept. -/
def Sys2Proof.Claims.appended (rs : List TakeRecord) (m n : TakeMemory) : Prop :=
  let count := m.capture.header.count
  n.capture.header = { m.capture.header with count := count + rs.length } ∧
    (∀ (j : Nat) (h : j < rs.length), slotAt n.capture.slots (count + j) = rs[j]) ∧
    (∀ i, i < count ∨ count + rs.length ≤ i → slotAt n.capture.slots i = slotAt m.capture.slots i) ∧
    n.take = m.take ∧ n.takeIsArea0 = m.takeIsArea0

/-- The capture position of a base (R124). -/
def Sys2Proof.Claims.capturedAt (base : RecBase) (s : State) : Nat :=
  match base with | .frames start => (s.clock.frame - start).toNat | .player clock => clock / 256

/-- The part a live record is captured with, but for a NOTE_OFF under SPLIT (R125). -/
def Sys2Proof.Claims.livePart (mode : RecPartMode) (part : Nat) : Nat := match mode with | .split => part | .fixed q => q

/-- How many records an observed live record calls for, SPACERs apart (R125, R127). -/
def Sys2Proof.Claims.called (ev : EventRecord) (r : Recorder) : Nat :=
  match ev.kind with
  | .noteOn =>
    match Sys2Proof.Claims.heldFor r.sounding ev.key with
    | some q => if q = Sys2Proof.Claims.livePart r.partMode ev.part then 1 else 2
    | none => 1
  | .noteOff => if Sys2Proof.Claims.heldFor r.sounding ev.key = none then 0 else 1
  | .damper | .sostenuto | .soft => if r.pedals then 1 else 0
  | _ => 0

/-- RECORD_START, the two later starts and the appending (R121 to R125, R127). NOW starts at once, FIRST_KEY and CUE arm the
recorder and leave event memory alone; RECORD_CUE_START starts a recorder armed on the cue; RECORD_FIRST_KEY_START starts one
armed on the first key and appends the NOTE_ON at the capture position, which is 0 but for a RUNNING Player. WRONG_STATE unless
IDLE, then BAD_VALUE. While RECORDING an observed live record is appended with the delta from the last position, here of at most
65,535 frames: a NOTE_ON, after a NOTE_OFF of the key's other part where that is held, a NOTE_OFF of a held key alone, a pedal
record where pedals are included; the set, the last captured damper and the last position follow. The inserted NOTE_OFF has the
value 0 and a sub-frame that stays free (the model's choice, log 27). That the recorder observes a NOTE_ON before a WAITING Player
whose expected set it empties, so that a FIRST_KEY start by it takes base FRAMES (log 5), and that RECORD_FIRST_KEY_START brings its
NOTE_ON in any lock state and before frame 0 (log 51), is the model's choice. -/
def Obligations.RecordingStartsByItsTrigger : Prop :=
  ∀ (tag trig mode part pedals : Byte) (barLen beats : Nat) (note : LiveNote) (s : State), barLen < 4294967296 → beats < 256 →
    let i : Instr := .recordStart tag ([trig, mode, part, pedals] ++ leBytes 4 barLen ++ leBytes 1 beats)
    let fits : Prop := trig.toNat ≤ 2 ∧ mode.toNat ≤ 1 ∧ pedals.toNat ≤ 1 ∧ (mode.toNat = 1 → part.toNat ≤ 3) ∧
      Sys2Proof.Claims.barsFit barLen beats
    let pm : RecPartMode := if mode.toNat = 1 then .fixed part.toNat else .split
    let r := s.recorder
    (windowOpen s = true → r.state ≠ .idle → exec i s = .next (appendReply 0x53 tag (.err .wrongState) s)) ∧
    (windowOpen s = true → r.state = .idle → ¬ fits → exec i s = .next (appendReply 0x53 tag (.err .badValue) s)) ∧
    (windowOpen s = true → r.state = .idle → fits → trig.toNat = 0 → ∃ t, exec i s = .next t ∧
      Sys2Proof.Claims.emptied barLen beats s t ∧ t = appendReply 0x53 tag (.ok [2])
        { s with memory := t.memory, recorder := Sys2Proof.Claims.started pm (decide (pedals.toNat = 1)) s }) ∧
    (windowOpen s = true → r.state = .idle → fits → 1 ≤ trig.toNat → exec i s = .next (appendReply 0x53 tag (.ok [1])
      { s with recorder := { r with
          state := .armed, trigger := some (if trig.toNat = 1 then .firstKey else .cue), partMode := pm
          pedals := decide (pedals.toNat = 1), pendingBars := some (barLen, beats) } })) ∧
    (r.state = .armed → r.trigger = some .cue → r.pendingBars = some (barLen, beats) → ∃ t, exec .recordCueStart s = .next t ∧
      Sys2Proof.Claims.emptied barLen beats s t ∧
      t = { s with memory := t.memory, recorder := Sys2Proof.Claims.started r.partMode r.pedals s }) ∧
    (r.state = .armed → r.trigger = some .firstKey → r.pendingBars = some (barLen, beats) → Memory.wf s.memory = true →
      let pos := if s.player.state = .running then s.player.pos / 256 else 0
      let p := match r.partMode with | .split => note.part | .fixed q => q
      pos ≤ 65535 → ∃ t, exec (.recordFirstKeyStart note) s = .next t ∧
        t.memory.capture.header = { count := 1, barLen := barLen, beats := beats } ∧
        slotAt t.memory.capture.slots 0 =
          { delta := pos, kind := .noteOn, part := p, key := note.key.val, value := note.velocity, sub := note.offset } ∧
        (∀ n, n ≠ 0 → slotAt t.memory.capture.slots n = slotAt s.memory.capture.slots n) ∧
        t.memory.take = s.memory.take ∧ t.memory.takeIsArea0 = s.memory.takeIsArea0 ∧
        t = { s with memory := t.memory, recorder := { Sys2Proof.Claims.started r.partMode r.pedals s with
          lastPos := pos, sounding := [(note.key.val, p)] } }) ∧
    (∀ (ev : EventRecord) (base : RecBase), r.state = .recording → r.base = some base → Memory.wf s.memory = true →
      let pos := Sys2Proof.Claims.capturedAt base s
      let lp := Sys2Proof.Claims.livePart r.partMode ev.part
      let held := Sys2Proof.Claims.heldFor r.sounding ev.key
      let n := Sys2Proof.Claims.called ev r
      let record (kind : TakeKind) (p : Nat) (delta : Nat) : TakeRecord :=
        { delta := delta, kind := kind, part := p, key := ev.key, value := ev.value, sub := ev.offset }
      let moved (t : State) : Recorder :=
        { r with lastPos := pos, sounding := t.recorder.sounding, damperValue := t.recorder.damperValue
                 damperPart := t.recorder.damperPart }
      (n = 0 → captureObserve ev s = s) ∧
      (1 ≤ n → pos - r.lastPos ≤ 65535 → s.memory.capture.header.count + n ≤ 16294 →
        let t := captureObserve ev s
        t = { s with memory := t.memory, recorder := moved t, free := t.free } ∧
        (∀ key, Sys2Proof.Claims.heldFor t.recorder.sounding key =
          if key = ev.key ∧ ev.kind = .noteOn then some lp
          else if key = ev.key ∧ ev.kind = .noteOff then none
          else Sys2Proof.Claims.heldFor r.sounding key) ∧
        (t.recorder.damperValue, t.recorder.damperPart) =
          (if ev.kind = .damper then (ev.value, lp) else (r.damperValue, r.damperPart)) ∧
        (ev.kind = .noteOn → n = 1 →
          Sys2Proof.Claims.appended [record .noteOn lp (pos - r.lastPos)] s.memory t.memory) ∧
        (ev.kind = .noteOn → n = 2 → ∀ q, held = some q → ∃ sub, Sys2Proof.Claims.appended
          [{ delta := pos - r.lastPos, kind := .noteOff, part := q, key := ev.key, value := 0, sub := sub },
           record .noteOn lp 0] s.memory t.memory) ∧
        (ev.kind = .noteOff → ∀ q, held = some q → Sys2Proof.Claims.appended
          [record .noteOff (match r.partMode with | .split => q | .fixed p => p) (pos - r.lastPos)] s.memory t.memory) ∧
        (ev.kind = .damper → Sys2Proof.Claims.appended [record .damper lp (pos - r.lastPos)] s.memory t.memory) ∧
        (ev.kind = .sostenuto → Sys2Proof.Claims.appended [record .sostenuto lp (pos - r.lastPos)] s.memory t.memory) ∧
        (ev.kind = .soft → Sys2Proof.Claims.appended [record .soft lp (pos - r.lastPos)] s.memory t.memory)))

/-- RECORD_STOP (R129): while RECORDING the closing records are appended (a NOTE_OFF for each captured-sounding pair, a DAMPER 0
where the last captured damper is not 0 and pedals are included, an END), the first with the delta from the last position, here
of at most 65,535 frames, and the others with 0; the recorder is IDLE, a DAMPER appended being the last captured damper (R127).
While ARMED it is disarmed. While IDLE WRONG_STATE. An observed record whose appending would raise the record count above 16,294
closes the recording in the same way instead, with CAPTURE_FULL (R128). A frame tick fills a gap above 65,535 frames with SPACERs
(R126). -/
def Obligations.RecordStopClosesTheCapture : Prop :=
  ∀ (tag : Byte) (base : RecBase) (s : State), Memory.wf s.memory = true →
    let r := s.recorder
    let count := s.memory.capture.header.count
    let pos := Sys2Proof.Claims.capturedAt base s
    let gap := pos - r.lastPos
    let offs : List TakeRecord := r.sounding.map (fun p =>
      { delta := 0, kind := .noteOff, part := p.2, key := p.1, value := 0, sub := 0 })
    let damper : List TakeRecord := if r.damperValue ≠ 0 ∧ r.pedals = true then
      [{ delta := 0, kind := .damper, part := r.damperPart, key := 0, value := 0, sub := 0 }] else []
    let closing := offs ++ damper ++ [{ delta := 0, kind := .endMark, part := 0, key := 0, value := 0, sub := 0 }]
    let closed (u : State) : Prop :=
      u.memory.capture.header = { s.memory.capture.header with count := count + closing.length } ∧
      (∀ (j : Nat) (h : j < closing.length), slotAt u.memory.capture.slots (count + j) =
        { closing[j] with delta := if j = 0 then gap else 0 }) ∧
      (∀ n, n < count ∨ count + closing.length ≤ n →
        slotAt u.memory.capture.slots n = slotAt s.memory.capture.slots n) ∧
      u.memory.take = s.memory.take ∧ u.memory.takeIsArea0 = s.memory.takeIsArea0 ∧
      u = { s with
        memory := u.memory
        recorder := { r with
          state := .idle, base := none, sounding := [], lastPos := pos
          damperValue := if r.pedals then 0 else r.damperValue } }
    let spacers := (gap - 1) / 65535
    (windowOpen s = true → r.state = .idle →
      exec (.recordStop tag []) s = .next (appendReply 0x54 tag (.err .wrongState) s)) ∧
    (windowOpen s = true → r.state = .armed →
      exec (.recordStop tag []) s = .next (appendReply 0x54 tag (.ok (leBytes 2 count ++ [0]))
        { s with recorder := { r with state := .idle, trigger := none, pendingBars := none } })) ∧
    (windowOpen s = true → r.state = .recording → r.base = some base → count ≤ 16294 → gap ≤ 65535 →
      ∃ u, closed u ∧ exec (.recordStop tag []) s = .next (appendReply 0x54 tag
        (.ok (leBytes 2 (count + closing.length) ++ leBytes 1 r.sounding.length)) u)) ∧
    (∀ ev : EventRecord, r.state = .recording → r.base = some base → count ≤ 16294 → gap ≤ 65535 →
      16294 < count + Sys2Proof.Claims.called ev r → 1 ≤ Sys2Proof.Claims.called ev r →
      ∃ u, closed u ∧ captureObserve ev s = raiseNotice .captureFull
        (leBytes 2 (count + closing.length) ++ leBytes 1 r.sounding.length ++ leBytes 1 ev.kind.code) u) ∧
    (r.state = .recording → r.base = some base → count + spacers ≤ 16294 → ∃ t, runWork .spacers s = (none, t) ∧
      Sys2Proof.Claims.appended (List.replicate spacers
        { delta := 65535, kind := .spacer, part := 0, key := 0, value := 0, sub := 0 }) s.memory t.memory ∧
      t = { s with memory := t.memory, recorder := { r with lastPos := r.lastPos + 65535 * spacers } } ∧
      pos - t.recorder.lastPos ≤ 65535)

/-! ## Player -/

/-- An OK reply to a Player message: the state and the position in frames after it, of which 4 bytes give the low 32 bits, then
the message's own data (R131; the model's choice, logs 29 and 43). -/
def Sys2Proof.Claims.played (code tag : Byte) (data : List Byte) (t : State) : State :=
  appendReply code tag (.ok (leBytes 1 t.player.state.code ++ leBytes 4 (t.player.pos / 256) ++ data)) t

/-- A section in a reply (R138, R180). -/
def Sys2Proof.Claims.sectionField (sec : Section) : List Byte :=
  (match sec.range with
   | .whole => [0xFF, 0xFF, 0xFF, 0xFF]
   | .bars f l => leBytes 2 f ++ leBytes 2 l) ++ leBytes 2 sec.repeats ++ leBytes 1 sec.action.code

/-- The data of a SECTION_WRITE reply (R138). -/
def Sys2Proof.Claims.sectionData (p : Player) : List Byte :=
  Sys2Proof.Claims.sectionField p.shadow ++ Sys2Proof.Claims.sectionField p.active ++ leBytes 2 p.working.repeats ++
    boolByte p.applyPending

/-- The start bar of a section: 0 for the whole take (R138). -/
def Sys2Proof.Claims.startBar (sec : Section) : Nat := match sec.range with | .whole => 0 | .bars f _ => f

/-- A part in a PART_MODE reply: mode, stream, presence of a pending setting with its mode and stream (R137). -/
def Sys2Proof.Claims.partField (q : PartSetting) : List Byte :=
  leBytes 1 q.mode.code ++ leBytes 1 q.stream.code ++
    (match q.pending with | none => [0, 0, 0] | some (m, st) => [1] ++ leBytes 1 m.code ++ leBytes 1 st.code)

/-- SECTION_WRITE, SECTION_APPLY and PART_MODE (R137 to R139): the shadow alone is written, 0xFFFF twice meaning the whole take
and repeats above 255 held as 255; an apply loads the shadow and its start bar while STOPPED or ARMED and sets the flag in every
other state; a part's mode and stream become its pending setting. Values out of range are refused. That an OK reply begins with
the state and the position (logs 29 and 43), the widths of its other fields (log 30), the presence bytes (log 31) and 0xFFFF
twice for the whole take in a reply (log 48) are the model's choice. -/
def Obligations.SectionsAndPartsAreSet : Prop :=
  ∀ (tag action : Byte) (first last repeats : Nat) (part : PartIdx) (mode : PartPlay) (stream : Stream) (a b c : Byte)
    (s : State), windowOpen s = true → first < 65536 → last < 65536 → repeats < 65536 →
    let p := s.player
    let write : Instr := .sectionWrite tag (leBytes 2 first ++ leBytes 2 last ++ leBytes 2 repeats ++ [action])
    let whole : Prop := first = 65535 ∧ last = 65535
    let set (q : Player) : State := { s with player := q }
    let shadow : Section :=
      { range := if first = 65535 ∧ last = 65535 then .whole else .bars first last, repeats := min 255 repeats
        action := if action.toNat = 0 then .stop else .carryOn }
    ((whole ∨ first < last) → action.toNat ≤ 1 → exec write s = .next (Sys2Proof.Claims.played 0x60 tag
      (Sys2Proof.Claims.sectionData { p with shadow := shadow }) (set { p with shadow := shadow }))) ∧
    (¬ whole ∧ last ≤ first ∨ 1 < action.toNat → exec write s = .next (appendReply 0x60 tag (.err .badValue) s)) ∧
    (p.state = .stopped ∨ p.state = .armed → exec (.sectionApply tag []) s = .next (Sys2Proof.Claims.played 0x61 tag [0] (set { p with
      active := p.shadow, working := p.shadow, applyPending := false
      startTarget := some (Sys2Proof.Claims.startBar p.shadow) }))) ∧
    (p.state ≠ .stopped → p.state ≠ .armed → exec (.sectionApply tag []) s =
      .next (Sys2Proof.Claims.played 0x61 tag [1] (set { p with applyPending := true }))) ∧
    (∃ t, exec (.partMode tag (leBytes 1 part.val ++ leBytes 1 mode.code ++ leBytes 1 stream.code)) s = .next t ∧
      partAt t.player part.val = { partAt p part.val with pending := some (mode, stream) } ∧
      (∀ n, n ≠ part.val → partAt t.player n = partAt p n) ∧
      t = Sys2Proof.Claims.played 0x66 tag ((List.range 4).flatMap (fun n => Sys2Proof.Claims.partField (partAt t.player n)))
        (set { p with parts := t.player.parts })) ∧
    (3 < a.toNat ∨ 2 < b.toNat ∨ 1 < c.toNat → exec (.partMode tag [a, b, c]) s =
      .next (appendReply 0x66 tag (.err .badValue) s))

/-- PLAY_RATE, FOLLOW_CONFIG and METRONOME (R133, R148, R150): the rate clamped to 32..512; the follow switch and the window
clamped to 0..800, where turning follow off while WAITING empties the expected set and returns to RUNNING; the metronome switch
and the level clamped to 0..1,048,575, where turning it off cuts a click at the end of the frame. A switch code above 1 is
refused. That an OK reply begins with the state and the position (logs 29 and 43) and the layout of the rest (log 30) are the
model's choice. -/
def Obligations.RateFollowAndMetronomeAreStored : Prop :=
  ∀ (tag on : Byte) (rate window level : Nat) (s : State), windowOpen s = true → rate < 65536 → window < 65536 →
    level < 16777216 →
    let p := s.player
    let switch : Bool := decide (on.toNat = 1)
    let follow : Instr := .followConfig tag ([on] ++ leBytes 2 window)
    let metronome : Instr := .metronome tag ([on] ++ leBytes 3 level)
    let freed : Prop := on.toNat = 0 ∧ p.state = .waiting
    let q : Player := { p with follow := switch, window := min 800 window }
    let followData (r : Player) : List Byte := boolByte switch ++ leBytes 2 (min 800 window) ++
      boolByte (decide (800 < window)) ++ leBytes 2 p.mistakes ++ leBytes 2 p.overflows ++
      r.expected.flatMap (fun e => leBytes 1 e.1 ++ leBytes 1 e.2)
    exec (.playRate tag (leBytes 2 rate)) s = .next (Sys2Proof.Claims.played 0x65 tag
      (leBytes 2 (clampNat 32 512 rate) ++ boolByte (decide (rate < 32 ∨ 512 < rate)))
      { s with player := { p with rate := clampNat 32 512 rate } }) ∧
    (on.toNat ≤ 1 → ¬ freed → exec follow s =
      .next (Sys2Proof.Claims.played 0x67 tag (followData q) { s with player := q })) ∧
    (freed → exec follow s = .next (Sys2Proof.Claims.played 0x67 tag (followData { q with expected := [] })
      { s with player := { q with expected := [], state := .running } })) ∧
    (1 < on.toNat → exec follow s = .next (appendReply 0x67 tag (.err .badValue) s)) ∧
    (on.toNat ≤ 1 → exec metronome s = .next (Sys2Proof.Claims.played 0x68 tag
      (boolByte switch ++ leBytes 3 (min 1048575 level) ++ boolByte (decide (1048575 < level)))
      { s with
        player := { p with metronome := switch, clickLevel := min 1048575 level }
        mixer := { s.mixer with click :=
          if switch then s.mixer.click else s.mixer.click.map (fun c => { c with cut := true }) } })) ∧
    (1 < on.toNat → exec metronome s = .next (appendReply 0x68 tag (.err .badValue) s))

/-- A locate to a bar as it begins (R142). -/
def Sys2Proof.Claims.locating (bar : Nat) (p : Player) : Player :=
  { p with state := .locating, locate := some (bar, 0), gatherLimit := none, freePlay := false, flushDest := none }

/-- The Player as it enters STOPPED, a pending apply carried out (R139, R144). -/
def Sys2Proof.Claims.stopped (p : Player) : Player :=
  let q : Player := { p with
    state := .stopped, freePlay := false, stopAtEnd := false, flushDest := none, locate := none }
  if p.applyPending then { q with
    active := p.shadow, working := p.shadow, applyPending := false
    startTarget := some (Sys2Proof.Claims.startBar p.shadow) }
  else q

/-- The entry into STOPPED with its PLAYER_STOPPED: reason 0 COMMAND, 1 SECTION_END, 2 TAKE_END, and the position (R144). -/
def Sys2Proof.Claims.halted (reason : Nat) (s : State) : State :=
  raiseNotice .playerStopped (leBytes 1 reason ++ leBytes 4 (s.player.pos / 256))
    { s with player := Sys2Proof.Claims.stopped s.player }

/-- PLAY_START, PLAY_CUE_START, PLAY_STOP and PLAY_LOCATE by the player state (R143 to R145): a start locates at the start target
or the active start bar, at once or on the cue; a stop NOW halts an ARMED or LOCATING Player, flushes a RUNNING or WAITING one
with destination STOP and gives a flush that destination; AT_SECTION_END sets the flag; a locate sets the start target, begins
again, flushes with destination LOCATE, or replaces a flush's destination, and is refused under STOP. The model's choices: the
place of state and position in the replies (log 29), the low 32 bits of that position (log 43), a value refused before a state
(log 34), and the start target kept while ARMED on the cue (log 22). -/
def Obligations.StartsStopsAndLocatesFollowTheState : Prop :=
  ∀ (tag v : Byte) (bar : Nat) (s : State), bar < 65536 →
    let p := s.player
    let set (q : Player) : State := { s with player := q }
    let fresh : Player := { p with
      stopAtEnd := false, lag := .armed, hold := 0, mistakes := 0, overflows := 0
      working := { p.working with repeats := p.active.repeats } }
    let target : Nat := p.startTarget.getD (Sys2Proof.Claims.startBar p.active)
    let go (q : Player) : Player := Sys2Proof.Claims.locating target { q with startTarget := none }
    let flush (d : FlushDest) : State := runFlush (set { p with state := .flushing, flushDest := some d, expected := [] })
    let locate : Instr := .playLocate tag (leBytes 2 bar)
    let inside : Prop := bar < sectionEnd s.memory.take p.active
    (p.state = .armed → exec .playCueStart s = .next (set (go p))) ∧
    (windowOpen s = true →
      (p.state = .stopped → exec (.playStart tag [0]) s = .next (Sys2Proof.Claims.played 0x62 tag [] (set (go fresh)))) ∧
      (p.state = .stopped → exec (.playStart tag [1]) s =
        .next (Sys2Proof.Claims.played 0x62 tag [] (set { fresh with state := .armed }))) ∧
      (p.state ≠ .stopped → v.toNat ≤ 1 → exec (.playStart tag [v]) s = .next (appendReply 0x62 tag (.err .wrongState) s)) ∧
      (1 < v.toNat → exec (.playStart tag [v]) s = .next (appendReply 0x62 tag (.err .badValue) s)) ∧
      (p.state = .armed ∨ p.state = .locating → exec (.playStop tag [0]) s =
        .next (Sys2Proof.Claims.played 0x63 tag [] (Sys2Proof.Claims.halted 0 s))) ∧
      (p.state = .running ∨ p.state = .waiting → exec (.playStop tag [0]) s =
        .next (Sys2Proof.Claims.played 0x63 tag [] (flush .stop))) ∧
      (p.state = .flushing → exec (.playStop tag [0]) s =
        .next (Sys2Proof.Claims.played 0x63 tag [] (set { p with flushDest := some .stop }))) ∧
      (p.state ≠ .stopped → exec (.playStop tag [1]) s =
        .next (Sys2Proof.Claims.played 0x63 tag [] (set { p with stopAtEnd := true }))) ∧
      (p.state = .stopped → v.toNat ≤ 1 → exec (.playStop tag [v]) s = .next (appendReply 0x63 tag (.err .wrongState) s)) ∧
      (1 < v.toNat → exec (.playStop tag [v]) s = .next (appendReply 0x63 tag (.err .badValue) s)) ∧
      (¬ inside → exec locate s = .next (appendReply 0x64 tag (.err .badValue) s)) ∧
      (inside → p.state = .stopped ∨ p.state = .armed → exec locate s =
        .next (Sys2Proof.Claims.played 0x64 tag [] (set { p with startTarget := some bar }))) ∧
      (inside → p.state = .locating → exec locate s =
        .next (Sys2Proof.Claims.played 0x64 tag [] (set (Sys2Proof.Claims.locating bar p)))) ∧
      (inside → p.state = .running ∨ p.state = .waiting → exec locate s =
        .next (Sys2Proof.Claims.played 0x64 tag [] (flush (.locate bar)))) ∧
      (inside → p.state = .flushing → p.flushDest ≠ some .stop → exec locate s =
        .next (Sys2Proof.Claims.played 0x64 tag [] (set { p with flushDest := some (.locate bar) }))) ∧
      (inside → p.state = .flushing → p.flushDest = some .stop → exec locate s =
        .next (appendReply 0x64 tag (.err .wrongState) s)))

/-- A click started by beat 1 where the metronome is on (R149, R150). -/
def Sys2Proof.Claims.announced (s : State) : State :=
  if s.player.metronome then
    let c : Click := { beatOne := true, amplitude := 2 * s.player.clickLevel, next := 0, cut := false }
    { s with mixer := { s.mixer with click := some c } }
  else s

/-- LOCATE_END (R142): the search step that meets, within 256 records, the first record at or beyond the target position, the
first END or the record count, makes that slot the read index, the target bar the position, the state RUNNING, and announces
beat 1. A step that meets none of them leaves the Player LOCATING, 256 records further on, as a frame tick shows it; LOCATE_END is
then not due and changes nothing (the model's choice, log 1). -/
def Obligations.LocateEndsAtTheFirstRecordAtOrBeyondTheBar : Prop :=
  ∀ (bar idx i : Nat) (inp : TickInputs) (s : State), s.player.state = .locating → s.player.locate = some (bar, idx) →
    let a := s.memory.take
    let met (n : Nat) : Prop := a.header.count ≤ n ∨ (slotAt a.slots n).kind = .endMark ∨
      bar * a.header.barLen ≤ positionOf a.slots n
    (idx ≤ i → met i → (∀ n, idx ≤ n → n < i → ¬ met n) → i < idx + 256 ∨ (i = idx + 256 ∧ a.header.count ≤ i) →
      exec .locateEnd s = .next (Sys2Proof.Claims.announced { s with player := { s.player with
        state := .running, locate := none, readIdx := i, pos := bar * a.header.barLen * 256 } })) ∧
    ((∀ n, idx ≤ n → n < idx + 256 → ¬ met n) → idx + 256 < a.header.count →
      exec .locateEnd s = .next s ∧
      (s.msg.resetDue = false → ∃ t, exec (.frameTick inp) s = .next t ∧
        t.player = { s.player with locate := some (bar, idx + 256), parts := t.player.parts }))

/-- The state after the decision at the end of a flush of a destination (R140, R144, R145). -/
def Sys2Proof.Claims.decided (dest : FlushDest) (s : State) : State :=
  let p := s.player
  let set (q : Player) : State := { s with player := q }
  let applied := Sys2Proof.Claims.locating (Sys2Proof.Claims.startBar p.shadow)
    { p with active := p.shadow, working := p.shadow, applyPending := false }
  match dest with
  | .stop => Sys2Proof.Claims.halted 0 s
  | .locate bar => set (Sys2Proof.Claims.locating bar p)
  | .endOfTake => if p.applyPending then set applied else Sys2Proof.Claims.halted (if p.stopAtEnd then 1 else 2) s
  | .endOfPass =>
    if p.applyPending then set applied
    else if p.stopAtEnd then Sys2Proof.Claims.halted 1 s
    else if p.working.repeats ≠ 1 then set (Sys2Proof.Claims.locating (Sys2Proof.Claims.startBar p.active)
      { p with working := { p.working with repeats := p.working.repeats - 1 } })
    else if p.working.action = .stop then Sys2Proof.Claims.halted 1 s
    else Sys2Proof.Claims.announced (set { p with state := .running, freePlay := true, flushDest := none })

/-- The parts whose last sent damper is not 0. -/
def Sys2Proof.Claims.damped (p : Player) : List Nat := (List.range 4).filter (fun n => decide ((partAt p n).lastDamper ≠ 0))

/-- What is stated of a queue record of the flush or the clean-up: its sub-frame is not where it is a NOTE_OFF or a DAMPER 0. -/
def Sys2Proof.Claims.shown (r : EventRecord) : EventRecord :=
  if r.kind = .noteOff ∨ r.kind = .damper then { r with offset := 0 } else r

/-- A playback record of value, offset and age 0. -/
def Sys2Proof.Claims.ending (kind : EventKind) (stream : Stream) (part key : Nat) : EventRecord :=
  { kind := kind, source := .playback, stream := stream, part := part, key := key, value := 0, isRepeat := false
    offset := 0, age := 0 }

/-- FLUSH_END (R140, R141), the sets ascending as they are kept (O58): with nothing to send, whatever the occupancy, or with room
in the Event Queue's reserve for every item, the NOTE_OFFs of the sounding set, the DAMPER 0s of the parts with a damper sent and
the GUIDE_OFFs of the lit set enter the queue in that order, ascending, both sets are empty, the last sent dampers are 0, and the
decision of the flush's destination is taken. With less room the first items that fit enter, the first refusal ends the flush for
that moment, and the rest waits with the Player FLUSHING; FLUSH_END is then not due and changes nothing (the model's choice, log
1). The sub-frame of a NOTE_OFF or DAMPER 0 is 0 at every rate but 256 (R78), where it stays free (log 27). The low 32 bits of the
position in PLAYER_STOPPED are the model's choice (log 43). -/
def Obligations.FlushEndSendsWhatRemainsAndDecides : Prop :=
  ∀ (dest : FlushDest) (s : State), s.player.state = .flushing → s.player.flushDest = some dest →
    pairsAscending s.player.sounding → pairsAscending s.player.lit →
    let items : List EventRecord :=
      s.player.sounding.map (fun q => Sys2Proof.Claims.ending .noteOff q.stream q.part q.key) ++
      (Sys2Proof.Claims.damped s.player).map (fun n => Sys2Proof.Claims.ending .damper (partAt s.player n).stream n 0) ++
      s.player.lit.map (fun q => Sys2Proof.Claims.ending .guideOff q.stream q.part q.key)
    (items = [] ∨ s.queue.records.length + items.length ≤ 64 →
      ∃ u t, exec .flushEnd s = .next t ∧ t = Sys2Proof.Claims.decided dest u ∧
        (u.queue.records.drop s.queue.records.length).map Sys2Proof.Claims.shown = items ∧
        (s.player.rate ≠ 256 → u.queue.records.drop s.queue.records.length = items) ∧
        u.queue = { s.queue with records := s.queue.records ++ u.queue.records.drop s.queue.records.length } ∧
        u.player.sounding = [] ∧ u.player.lit = [] ∧
        (∀ n < 4, partAt u.player n = { partAt s.player n with lastDamper := 0 }) ∧
        u = { s with
          queue := u.queue, free := u.free
          player := { s.player with sounding := [], lit := [], parts := u.player.parts } }) ∧
    (items ≠ [] → 64 < s.queue.records.length + items.length →
      let room := 64 - s.queue.records.length
      let left := room - s.player.sounding.length
      let u := runFlush s
      exec .flushEnd s = .next s ∧
      (u.queue.records.drop s.queue.records.length).map Sys2Proof.Claims.shown = items.take room ∧
      (s.player.rate ≠ 256 → u.queue.records.drop s.queue.records.length = items.take room) ∧
      (∀ n < 4, partAt u.player n = if n ∈ (Sys2Proof.Claims.damped s.player).take left then
        { partAt s.player n with lastDamper := 0 } else partAt s.player n) ∧
      u = { s with
        queue := { s.queue with records := s.queue.records ++ u.queue.records.drop s.queue.records.length }
        free := u.free
        player := { s.player with
          sounding := s.player.sounding.drop room
          lit := s.player.lit.drop (left - (Sys2Proof.Claims.damped s.player).length)
          parts := u.player.parts } })

/-- Nothing sounds, nothing is lit and no damper is held. -/
def Sys2Proof.Claims.quiet (p : Player) : Prop := p.sounding = [] ∧ p.lit = [] ∧ Sys2Proof.Claims.damped p = []

/-- END_OF_PASS and END_OF_TAKE (R140) of a quiet Player whose release has no record left: the position becomes the limit, or in
free play the take's end, the hold counter 0 and the expected set empty, an AT_SECTION balance change is triggered at the end of
a pass, the flush ends at once, and the decision is taken. The model's choices: that a take's end leaves the position there (log
24), and the low 32 bits of a position in PLAYER_STOPPED (log 43). -/
def Obligations.PassAndTakeEndAtTheirPoints : Prop :=
  ∀ s : State, s.player.state = .running → Sys2Proof.Claims.quiet s.player →
    let p := s.player
    let newPos := p.pos + p.rate
    let limit := sectionEnd s.memory.take p.active * s.memory.take.header.barLen * 256
    let finish := endPosition s.memory.take * 256
    let ended (dest : FlushDest) (q : Nat) (u : State) : Prop :=
      u.player = { p with state := .flushing, flushDest := some dest, expected := [], hold := 0, pos := q } ∧
      u.queue = s.queue ∧ u.memory = s.memory ∧ u.msg = s.msg ∧ u.tracker = s.tracker ∧ u.rail = s.rail ∧
      u.recorder = { s.recorder with base := u.recorder.base }
    (p.freePlay = false → releasable newPos s = false → limit ≤ newPos → ∃ u, ended .endOfPass limit u ∧
      exec .endOfPass s = .next (Sys2Proof.Claims.decided .endOfPass u) ∧
      (∀ b, s.mixer.pendingBal = some b → b.trigger = .atSection → u.mixer.pendingBal = none ∧
        (b.frames = 0 → u.mixer.bal = b.target ∧ u.mixer.fade = none) ∧
        (0 < b.frames → u.mixer.bal = s.mixer.bal ∧
          u.mixer.fade = some { target := b.target, remaining := b.frames }))) ∧
    (p.freePlay = true → firstEnd s.memory.take ≤ p.readIdx → finish ≤ newPos → ∃ u, ended .endOfTake finish u ∧
      exec .endOfTake s = .next (Sys2Proof.Claims.decided .endOfTake u))

/-- The playback record that the release presents for the take record of slot `i`, if any (R134, R78, R79): a NOTE_ON of a PLAY part
or, as a GUIDE_ON, of a GUIDE part beyond the gather limit, a NOTE_OFF whose pair sounds or is lit, the pedals of a PLAY part. -/
def Sys2Proof.Claims.presented (p : Player) (i : Nat) (r : TakeRecord) : Option EventRecord :=
  let part := partAt p r.part
  let ev (kind : EventKind) (stream : Stream) (value : Nat) : EventRecord :=
    { kind := kind, source := .playback, stream := stream, part := r.part, key := r.key, value := value, isRepeat := false
      offset := if p.rate = 256 then r.sub else 0, age := 0 }
  match r.kind, part.mode with
  | .noteOn, .play => some (ev .noteOn part.stream (max 1 (min 127 r.value)))
  | .noteOff, .play => (pairStream p.sounding r.part r.key).map (fun st => ev .noteOff st 0)
  | .damper, .play => some (ev .damper part.stream (min 127 r.value))
  | .sostenuto, .play => some (ev .sostenuto part.stream (min 127 r.value))
  | .soft, .play => some (ev .soft part.stream (min 127 r.value))
  | .noteOn, .guide =>
    if p.gatherLimit.any (fun g => decide (i ≤ g)) then none else some (ev .guideOn part.stream (max 1 (min 127 r.value)))
  | .noteOff, .guide => (pairStream p.lit r.part r.key).map (fun st => ev .guideOff st 0)
  | _, _ => none

/-- A pair put into an ascending set, in the place of one with its part and key. -/
def Sys2Proof.Claims.withPair (q : PlayPair) (l : List PlayPair) : List PlayPair :=
  l.filter (fun x => decide (pairBefore x q)) ++ [q] ++ l.filter (fun x => decide (pairBefore q x))

/-- A pair taken out of a set. -/
def Sys2Proof.Claims.withoutPair (part key : Nat) (l : List PlayPair) : List PlayPair :=
  l.filter (fun x => decide ((x.part, x.key) ≠ (part, key)))

/-- The Player's sets and last sent damper after an admitted record of the release (R134). -/
def Sys2Proof.Claims.taken (ev : EventRecord) (p : Player) : Player :=
  match ev.kind with
  | .noteOn => { p with sounding := Sys2Proof.Claims.withPair ⟨ev.part, ev.key, ev.stream⟩ p.sounding }
  | .noteOff => { p with sounding := Sys2Proof.Claims.withoutPair ev.part ev.key p.sounding }
  | .guideOn => { p with lit := Sys2Proof.Claims.withPair ⟨ev.part, ev.key, ev.stream⟩ p.lit }
  | .guideOff => { p with lit := Sys2Proof.Claims.withoutPair ev.part ev.key p.lit }
  | .damper => setPart ev.part (fun q => { q with lastDamper := ev.value }) p
  | .sostenuto | .soft | .miss => p

/-- Take records released one after another (R134, R135) with room for `room` playback records: the records admitted, the Player
with its sets, and the slot of the first one refused, at which the release ends. -/
def Sys2Proof.Claims.playbackRun (a : Area) (room : Nat) (due : List Nat) (p : Player) : List EventRecord × Player × Option Nat :=
  due.foldl (fun u i =>
    match u.2.2, Sys2Proof.Claims.presented u.2.1 i (slotAt a.slots i) with
    | none, some ev =>
      if u.1.length < room then (u.1 ++ [ev], Sys2Proof.Claims.taken ev u.2.1, none) else (u.1, u.2.1, some i)
    | _, _ => u) ([], p, none)

/-- HELD_RECORD_RETRY and LAG (R134, R135): a held NOTE_ON of a PLAY part is presented again. Refused, at an occupancy of 64 or
more, the read index and the position stay and the hold counter goes up, saturating at 15; the fifteenth held frame with the flag
ARMED raises LAG with the position and the slot. Admitted, the record enters the queue, its pair sounds on its stream, the read
index moves past it, and with no further record due below the limit the position becomes the new position and the counter 0. Where
the record is a NOTE_ON of a GUIDE part with follow on, beyond the gather limit, the chord is gathered instead (R146): the
examined slots, the pairs taken, the overflow count, the gather limit, WAITING, and a GUIDE_ON for each pair. The Player's work at
a tick (R132) while RUNNING with nothing to clean up, held before or not: the records due by the new position and below the limit
are released in slot order by the table of R134; with room in the reserve for all, the position moves to the new position with the
counter 0; the first one refused ends the release and is held, the position moving to it alone, LAG as above. That a GUIDE NOTE_ON
at or before the gather limit is skipped with follow off too (log 23), that the count takes every occurrence of a pair beyond the
16 (log 50) and the 4 bytes of the position in LAG (log 43) are the model's choice. -/
def Obligations.AHeldRecordIsRetried : Prop :=
  (∀ (r : TakeRecord) (s : State), s.player.state = .running → 0 < s.player.hold → s.player.hold ≤ 15 →
    s.player.expected = [] → cleanupItem s.player = none →
    let p := s.player
    let a := s.memory.take
    let newPos := p.pos + p.rate
    let limit := sectionEnd a p.active * a.header.barLen * 256
    slotAt a.slots p.readIdx = r → r.kind = .noteOn → (partAt p r.part).mode = .play → p.readIdx < firstEnd a →
    positionOf a.slots p.readIdx * 256 = p.pos → p.freePlay = false → newPos < limit →
    let ev : EventRecord :=
      { kind := .noteOn, source := .playback, stream := (partAt p r.part).stream, part := r.part, key := r.key
        value := clampNat 1 127 r.value, isRepeat := false, offset := if p.rate = 256 then r.sub else 0, age := 0 }
    (64 ≤ s.queue.records.length → p.hold ≠ 14 ∨ p.lag = .sent → p.hold ≠ 15 ∨ p.lag = .sent → exec .heldRecordRetry s =
      .next { s with player := { p with hold := min 15 (p.hold + 1) } }) ∧
    (64 ≤ s.queue.records.length → p.hold = 14 → p.lag = .armed →
      exec .lag s = .next (raiseNotice .lag (leBytes 4 (p.pos / 256) ++ leBytes 2 p.readIdx)
        { s with player := { p with hold := 15, lag := .sent } }) ∧
      exec .heldRecordRetry s = exec .lag s) ∧
    (s.queue.records.length ≤ 63 → firstEnd a ≤ p.readIdx + 1 ∨ newPos < positionOf a.slots (p.readIdx + 1) * 256 →
      ∃ t, exec .heldRecordRetry s = .next t ∧ t.queue = { s.queue with records := s.queue.records ++ [ev] } ∧
        t.player = { p with pos := newPos, readIdx := p.readIdx + 1, hold := 0, sounding := t.player.sounding } ∧
        pairStream t.player.sounding r.part r.key = some (partAt p r.part).stream ∧
        (∀ part key, (part, key) ≠ (r.part, r.key) →
          pairStream t.player.sounding part key = pairStream p.sounding part key) ∧
        t.memory = s.memory ∧ t.msg = s.msg ∧ t.tracker = s.tracker ∧ t.rail = s.rail)) ∧
  (∀ s : State, s.player.state = .running → 0 < s.player.hold → cleanupItem s.player = none → s.player.follow = true →
    let p := s.player
    let a := s.memory.take
    let limit := sectionEnd a p.active * a.header.barLen * 256
    let guide (i : Nat) : Bool :=
      decide ((slotAt a.slots i).kind = .noteOn) && decide ((partAt p (slotAt a.slots i).part).mode = .guide)
    let pair (i : Nat) : Nat × Nat := ((slotAt a.slots i).part, (slotAt a.slots i).key)
    guide p.readIdx = true → (∀ g, p.gatherLimit = some g → g < p.readIdx) → p.readIdx < firstEnd a →
    positionOf a.slots p.readIdx * 256 = p.pos → p.freePlay = false → p.pos < limit →
    let examined : List Nat := (List.range (firstEnd a)).filter (fun i => decide (p.readIdx ≤ i) &&
      decide (positionOf a.slots i ≤ positionOf a.slots p.readIdx + p.window) && decide (positionOf a.slots i * 256 < limit))
    let hits := examined.filter guide
    let taken := (hits.filter (fun i => hits.all (fun j => decide (i ≤ j) || decide (pair j ≠ pair i)))).take 16
    let extra := (hits.filter (fun i => taken.all (fun j => decide (pair j ≠ pair i)))).length
    let on (i : Nat) : EventRecord :=
      { kind := .guideOn, source := .playback, stream := (partAt p (pair i).1).stream, part := (pair i).1, key := (pair i).2
        value := clampNat 1 127 (slotAt a.slots i).value, isRepeat := false
        offset := if p.rate = 256 then (slotAt a.slots i).sub else 0, age := 0 }
    ∃ t, exec .heldRecordRetry s = .next t ∧ t = { s with
        queue := t.queue
        player := { p with
          state := .waiting, hold := 0, readIdx := p.readIdx + 1, gatherLimit := examined.getLast?
          expected := taken.map pair, lit := t.player.lit
          overflows := if extra = 0 then p.overflows else min 65535 (p.overflows + extra) } } ∧
      (s.queue.records.length + taken.length ≤ 64 →
        t.queue = { s.queue with records := s.queue.records ++ taken.map on } ∧
        (∀ i ∈ taken, pairStream t.player.lit (pair i).1 (pair i).2 = some (partAt p (pair i).1).stream)) ∧
      (64 ≤ s.queue.records.length → t.queue = s.queue ∧ t.player.lit = p.lit)) ∧
  (∀ s : State, s.player.state = .running → s.player.hold ≤ 15 → s.player.expected = [] → cleanupItem s.player = none →
    (∀ n < 4, (partAt s.player n).pending = none) → pairsAscending s.player.sounding → pairsAscending s.player.lit →
    let p := s.player
    let a := s.memory.take
    let newPos := p.pos + p.rate
    let limit := sectionEnd a p.active * a.header.barLen * 256
    let due : List Nat := (List.range (firstEnd a)).filter (fun i => decide (p.readIdx ≤ i) &&
      decide (positionOf a.slots i * 256 ≤ newPos) && (p.freePlay || decide (positionOf a.slots i * 256 < limit)))
    let chord (i : Nat) : Prop := p.follow = true ∧ (slotAt a.slots i).kind = .noteOn ∧
      (partAt p (slotAt a.slots i).part).mode = .guide ∧ ∀ g, p.gatherLimit = some g → g < i
    let all := Sys2Proof.Claims.playbackRun a (64 - s.queue.records.length) due p
    let t := playerRun (playerFuel s) (.cue false) s
    let moved (q idx hold : Nat) : State := Sys2Proof.Claims.advanced q { s with
      queue := { s.queue with records := s.queue.records ++ all.1 }
      player := { all.2.1 with readIdx := idx, hold := hold } }
    (if p.freePlay then newPos < endPosition a * 256 else newPos < limit) → (∀ i ∈ due, ¬ chord i) →
    (all.2.2 = none → t = moved newPos (p.readIdx + due.length) 0) ∧
    (∀ i, all.2.2 = some i →
      let held := moved (positionOf a.slots i * 256) i (min 15 (p.hold + 1))
      t = if 14 ≤ p.hold ∧ p.lag = .armed then
          raiseNotice .lag (leBytes 4 (positionOf a.slots i) ++ leBytes 2 i) { held with player := { held.player with lag := .sent } }
        else held) ∧
    (0 < p.hold → exec .heldRecordRetry s = .next t))

/-- PART_CLEANUP (R137, R135), the sets ascending as they are kept (O58): with nothing to present, whatever the occupancy, or with
room in the reserve, the NOTE_OFFs of sounding pairs whose part is no longer PLAY and then the GUIDE_OFFs of lit pairs whose part
is no longer GUIDE enter the queue, ascending, each pair leaves its set, expected entries of parts no longer GUIDE are removed,
and a set this empties returns WAITING to RUNNING. With less room the first items that fit enter, and the first refusal makes the
tick a held frame: the hold counter goes up, saturating at 15, and reaching it with the flag ARMED raises LAG with the position,
of which 4 bytes are the model's choice (log 43), and the record count. The sub-frame of such a NOTE_OFF is 0 at every rate but
256 (R78), where it stays free (log 27). -/
def Obligations.PartCleanupEndsTheNotesOfChangedParts : Prop :=
  ∀ s : State, s.player.state = .waiting ∨ s.player.state = .running →
    pairsAscending s.player.sounding → pairsAscending s.player.lit →
    let p := s.player
    let plays (n : Nat) : Bool := decide ((partAt p n).mode = .play)
    let guides (n : Nat) : Bool := decide ((partAt p n).mode = .guide)
    let items : List EventRecord :=
      (p.sounding.filter (fun q => !plays q.part)).map (fun q => Sys2Proof.Claims.ending .noteOff q.stream q.part q.key) ++
      (p.lit.filter (fun q => !guides q.part)).map (fun q => Sys2Proof.Claims.ending .guideOff q.stream q.part q.key)
    let left := p.expected.filter (fun e => guides e.1)
    let waits : PlayerState := if p.state = .waiting ∧ p.expected ≠ [] ∧ left = [] then .running else p.state
    (items = [] ∨ s.queue.records.length + items.length ≤ 64 →
      ∃ t, exec .partCleanup s = .next t ∧
        (t.queue.records.drop s.queue.records.length).map Sys2Proof.Claims.shown = items ∧
        (p.rate ≠ 256 → t.queue.records.drop s.queue.records.length = items) ∧
        t = { s with
          queue := { s.queue with records := s.queue.records ++ t.queue.records.drop s.queue.records.length }
          free := t.free
          player := { p with
            sounding := p.sounding.filter (fun q => plays q.part), lit := p.lit.filter (fun q => guides q.part)
            expected := left
            state := waits } }) ∧
    (items ≠ [] → 64 < s.queue.records.length + items.length → p.hold ≤ 15 →
      let room := 64 - s.queue.records.length
      let offs := p.sounding.filter (fun q => !plays q.part)
      let lights := p.lit.filter (fun q => !guides q.part)
      let lagging : Prop := 14 ≤ p.hold ∧ p.lag = .armed
      let held : State := if lagging then
        raiseNotice .lag (leBytes 4 (p.pos / 256) ++ leBytes 2 s.memory.take.header.count) s else s
      ∃ t, exec .partCleanup s = .next t ∧
        (t.queue.records.drop s.queue.records.length).map Sys2Proof.Claims.shown = items.take room ∧
        (p.rate ≠ 256 → t.queue.records.drop s.queue.records.length = items.take room) ∧
        t = { held with
          queue := { s.queue with records := s.queue.records ++ t.queue.records.drop s.queue.records.length }
          free := t.free
          player := { p with
            sounding := p.sounding.filter (fun q => decide (q ∉ offs.take room))
            lit := p.lit.filter (fun q => decide (q ∉ lights.take (room - offs.length)))
            expected := left, state := waits, hold := min 15 (p.hold + 1), lag := if lagging then .sent else p.lag } })

/-! ## Reports and the message protocol -/

/-- RAIL_STATUS, GAIN_TABLE_READ, CAPTURE_READ and IDENTIFY (R113, R119, R162, R175) reply with the state as it stands and change
nothing; a table read of index and count out of range and a capture read of no record or more than 28 are refused. The silicon
revision is whatever the part's stepping fixes (log 28). The messages whose empty body reads (R133, R137, R138, R148, R150, R154,
R156, R159) likewise reply with what is in force. The model's choices: the one byte of the revision (log 28), the place of state
and position in Player replies (log 29), the low 32 bits of that position (log 43), widths and
orders given only by class (log 30), presence bytes (log 31), 0xFFFF twice for a whole take in the SECTION_WRITE reply (log 48). -/
def Obligations.ReportsReplyAndKeepState : Prop :=
  (∀ (tag mode start count : Byte) (slot : Nat) (s : State), windowOpen s = true → slot < 65536 →
      let r := s.rail
      let a := s.memory.capture
      let given : Nat := min count.toNat (a.header.count - slot)
      let read : Instr := .gainTableRead tag [mode, start, count]
      let fits : Prop := mode.toNat ≤ 2 ∧ start.toNat ≤ 63 ∧ 1 ≤ count.toNat ∧ count.toNat ≤ 64
      exec (.railStatus tag []) s = .next (appendReply 0x32 tag (.ok (leBytes 1 r.state.code ++
        optBytes 1 (r.origin.map RailOrigin.code) ++ optBytes 1 (r.target.map RailEnd.code) ++
        optBytes 1 (r.next.map RailEnd.code) ++ optBytes 1 (r.reason.map RailReason.code) ++ leBytes 1 r.driver.code ++
        leBytes 4 r.clearance ++ leBytes 2 r.motion ++ leBytes 4 r.pause ++ leBytes 1 r.pauseCount ++
        boolByte r.acousticSwitch ++ boolByte r.silentSwitch ++ boolByte r.eval.satisfied ++ leBytes 1 r.eval.flightSize ++
        leBytes 1 r.eval.deep ++ leBytes 1 r.eval.lock.code ++ boolByte r.eval.overflow ++ boolByte r.monitor ++
        leBytes 1 r.gate.code)) s) ∧
      (fits → exec read s = .next (appendReply 0x43 tag (.ok ([mode, start, count] ++ (List.range count.toNat).flatMap
        (fun i => leBytes 2 (tableGain (if mode.toNat = 2 then s.mixer.tableR else s.mixer.tableL)
          ((start.toNat + i) % 64))))) s)) ∧
      (¬ fits → exec read s = .next (appendReply 0x43 tag (.err .badValue) s)) ∧
      (1 ≤ count.toNat → count.toNat ≤ 28 → exec (.captureRead tag (leBytes 2 slot ++ [count])) s = .next (appendReply 0x52 tag
        (.ok (leBytes 1 s.recorder.state.code ++ Sys2Proof.Claims.header a.header ++ leBytes 2 slot ++ leBytes 1 given ++
          (List.range given).flatMap (fun i => takeBytes (slotAt a.slots (slot + i))))) s)) ∧
      (count.toNat = 0 ∨ 28 < count.toNat → exec (.captureRead tag (leBytes 2 slot ++ [count])) s =
        .next (appendReply 0x52 tag (.err .badValue) s)) ∧
      exec (.identify tag []) s =
        .next (appendReply 0x71 tag (.ok [0xC1, 0x05, 0x80, 0x08, Config.siliconRevision]) s)) ∧
  (∀ (tag : Byte) (s : State), windowOpen s = true →
      let p := s.player
      let m := s.mixer
      exec (.mixMode tag []) s = .next (appendReply 0x40 tag
        (.ok (leBytes 1 m.mode.code ++ Sys2Proof.Claims.modeField m.pendingMode)) s) ∧
      exec (.mixBalance tag []) s = .next (appendReply 0x41 tag (.ok (Sys2Proof.Claims.pendingField m.pendingBal ++ [0] ++
        leBytes 2 m.bal ++ Sys2Proof.Claims.fadeField m.fade)) s) ∧
      exec (.volumeSet tag []) s = .next (appendReply 0x44 tag (.ok (leBytes 1 m.index ++ [0] ++ leBytes 2 m.targetL ++
        leBytes 2 m.targetR ++ leBytes 2 m.gainL ++ leBytes 2 m.gainR)) s) ∧
      exec (.sectionWrite tag []) s = .next (Sys2Proof.Claims.played 0x60 tag (Sys2Proof.Claims.sectionData p) s) ∧
      exec (.playRate tag []) s = .next (Sys2Proof.Claims.played 0x65 tag (leBytes 2 p.rate ++ [0]) s) ∧
      exec (.partMode tag []) s = .next (Sys2Proof.Claims.played 0x66 tag
        ((List.range 4).flatMap (fun n => Sys2Proof.Claims.partField (partAt p n))) s) ∧
      exec (.followConfig tag []) s = .next (Sys2Proof.Claims.played 0x67 tag (boolByte p.follow ++ leBytes 2 p.window ++ [0] ++
        leBytes 2 p.mistakes ++ leBytes 2 p.overflows ++ p.expected.flatMap (fun e => leBytes 1 e.1 ++ leBytes 1 e.2)) s) ∧
      exec (.metronome tag []) s = .next (Sys2Proof.Claims.played 0x68 tag
        (boolByte p.metronome ++ leBytes 3 p.clickLevel ++ [0]) s))

/-- STATUS and RESET (R174, R176). STATUS reports the counters and states as they stand and clears the notice drop counter alone;
the 2 bytes of that counter are the model's choice (log 30). RESET sets the reset-pending indication. The frame tick whose
upstream frame carries the last segment of its reply, the one at the head of the queue, makes the reset due at the next tick;
that the reply is known by its code and result is the model's choice (log 36). -/
def Obligations.StatusReportsAndResetIsPending : Prop :=
  (∀ (tag : Byte) (s : State), windowOpen s = true →
    let u := s.msg
    exec (.status tag []) s = .next (appendReply 0x70 tag (.ok (leBytes 4 s.clock.frame.toNat ++ leBytes 2 u.linkErrors ++
      leBytes 2 u.framingErrors ++ leBytes 2 u.discarded ++ leBytes 1 u.replies.length ++ leBytes 1 u.notices.length ++
      leBytes 2 u.noticeDrops ++ leBytes 1 s.scan.lock.code ++ leBytes 2 s.scan.errors ++
      leBytes 1 s.queue.records.length ++
      leBytes 1 (s.queue.records.filter (fun r => decide (r.source = .playback))).length ++ leBytes 2 s.queue.drops ++
      leBytes 2 s.queue.refusals ++ leBytes 1 s.queue.overrun.code ++ boolByte s.store.saving ++
      leBytes 1 s.store.source.code ++ boolByte s.cal.running ++ leBytes 1 s.cal.faultList.length ++
      boolByte s.cal.overflow ++ leBytes 1 s.rail.state.code ++ leBytes 1 s.player.state.code ++
      leBytes 1 s.recorder.state.code ++ leBytes 2 s.mixer.saturation)) { s with msg := { u with noticeDrops := 0 } }) ∧
    exec (.reset tag []) s = .next (appendReply 0x72 tag (.ok []) { s with msg := { u with resetPending := true } })) ∧
  (∀ (tag : Byte) (rest : List Reply) (inp : TickInputs) (s : State), s.msg.resetPending = true → s.msg.resetDue = false →
    s.msg.replies = { code := 0x72, tag := tag, result := .ok [], sent := 0 } :: rest →
    ∃ t, exec (.frameTick inp) s = .next t ∧ t.msg.replies = rest ∧ t.msg.resetDue = true ∧ t.msg.resetPending = true)

/-- The body lengths that each message's rule accepts. -/
def Sys2Proof.Claims.acceptsLength (code n : Nat) : Bool :=
  if code = 0x10 then n == 21
  else if code = 0x13 then decide (3 ≤ n) && decide (n ≤ 234)
  else if code = 0x18 then n == 23
  else if code = 0x42 then decide (4 ≤ n) && decide (n ≤ 130) && n % 2 == 0
  else if code = 0x51 then decide (10 ≤ n) && decide (n ≤ 234) && n % 8 == 2
  else if code = 0x53 then n == 9
  else if code ∈ [0x15, 0x31, 0x50, 0x60] then n == 0 || n == 7
  else if code ∈ [0x41, 0x68] then n == 0 || n == 4
  else if code ∈ [0x66, 0x67] then n == 0 || n == 3
  else if code = 0x65 then n == 0 || n == 2
  else if code ∈ [0x33, 0x40, 0x44] then n == 0 || n == 1
  else if code ∈ [0x14, 0x43, 0x52] then n == 3
  else if code ∈ [0x11, 0x12, 0x20, 0x64] then n == 2
  else if code ∈ [0x19, 0x22, 0x30, 0x45, 0x62, 0x63] then n == 1
  else n == 0

/-- Every message command (R171): discarded with nothing changed while a reset is pending; discarded and counted when 4 replies
wait; else answered by exactly one reply with its code and tag at the end of the queue. A body of a length its rule does not
accept is answered ERROR(BAD_LENGTH) and changes nothing else, the length coming first where the rule states no order (the model's
choice, logs 34 and 42). A message command is what the dispatch of its code does, past link state and assembler (the model's
choice, log 35); a code that names no message is answered ERROR(UNKNOWN_CODE). -/
def Obligations.EveryMessageIsAnsweredOnce : Prop :=
  ∀ (i : Instr) (code tag other : Byte) (body : List Byte) (s : State), messageParts i = some (code, tag, body) →
    (s.msg.resetPending = true → exec i s = .next s) ∧
    (s.msg.resetPending = false → 4 ≤ s.msg.replies.length → exec i s =
      .next { s with msg := { s.msg with discarded := min 65535 (s.msg.discarded + 1) } }) ∧
    (windowOpen s = true → ∃ result t, exec i s = .next t ∧
      t.msg.replies = s.msg.replies ++ [{ code := code, tag := tag, result := result, sent := 0 }]) ∧
    (windowOpen s = true → Sys2Proof.Claims.acceptsLength code.toNat body.length = false →
      exec i s = .next (appendReply code tag (.err .badLength) s)) ∧
    exec i s = .next (dispatch code tag body s) ∧
    (windowOpen s = true → (∀ b, messageOfCode other.toNat tag b = none) →
      dispatch other tag body s = appendReply other tag (.err .unknownCode) s)

/-- A well-formed downstream frame (R167, R179): 90 bytes, its frame mark, and IDLE not together with FIRST or LAST. -/
def Sys2Proof.Claims.frameWellFormed (bytes : List Byte) : Prop :=
  let ctl := bytes.getD 74 0
  bytes.length = 90 ∧ bytes.getD 0 0 = 0xC3 ∧ bytes.getD 1 0 = 0x5A ∧
    ¬ (ctl.getLsbD 2 = true ∧ (ctl.getLsbD 0 = true ∨ ctl.getLsbD 1 = true))

/-- DOWNSTREAM_FRAME, LINK_DOWN and LINK_RESTORED (R167 to R170): the verdict settled by a well-formed or malformed frame in each
link state, short of the runs that change it; the 80th bad frame takes the link DOWN and a message under assembly with it; the
8th good frame brings it UP, raises LINK_RESTORED and is itself accepted. The assembler takes a segment by its state (R169,
R170): an IDLE segment does nothing; a FIRST begins a message, refusing a partial one with FRAMING; FIRST and LAST complete one
of one segment; a continuation is appended, is a stray while IDLE, is ignored while DISCARDING, and is refused with BAD_LENGTH as
the 16th; a LAST completes the message, dispatched where its header asks for that number of segments, else refused with
BAD_LENGTH. That a refusal whose own reply is discarded counts no discarded message is the model's choice (log 32). -/
def Obligations.DownstreamFramesSettleTheLink : Prop :=
  ∀ (bytes : List Byte) (code tag : Byte) (body pad : List Byte) (s : State),
    let m := s.msg
    let i : Instr := .downstreamFrame bytes
    let set (n : MessageUnit) : State := { s with msg := n }
    let errors : Nat := min 65535 (m.linkErrors + 1)
    let wf : Prop := Sys2Proof.Claims.frameWellFormed bytes
    let heard := some (toneOf bytes)
    (m.verdict = some .good ∨ m.verdict = some .bad → exec i s = .next (set { m with linkErrors := errors })) ∧
    (m.verdict = some .pending → ¬ wf → m.link = .up → m.badRun < 79 → exec i s =
      .next (set { m with verdict := some .bad, linkErrors := errors, badRun := m.badRun + 1 })) ∧
    (m.verdict = some .pending → ¬ wf → m.link = .down → exec i s = .next (set { m with
      verdict := some .bad, linkErrors := errors, goodRun := 0, outage := min 65535 (m.outage + 1) })) ∧
    (m.verdict = some .pending → wf → m.link = .down → m.goodRun < 7 → exec i s = .next (set { m with
      verdict := some .good, goodRun := m.goodRun + 1, outage := min 65535 (m.outage + 1), audio := heard })) ∧
    (m.verdict = some .pending → wf → m.link = .up → exec i s = .next (takeSegment (bytes.drop 74)
      (set { m with verdict := some .good, badRun := 0, audio := heard }))) ∧
    (m.verdict = some .pending → m.link = .up → m.badRun = 79 →
      exec .linkDown s = .next (set { m with
        verdict := some .bad, linkErrors := errors, link := .down, badRun := 0, goodRun := 0, outage := 80
        assembler := .idle
        framingErrors := match m.assembler with
          | .assembling _ _ => min 65535 (m.framingErrors + 1)
          | _ => m.framingErrors }) ∧
      (¬ wf → exec i s = exec .linkDown s)) ∧
    (m.verdict = some .pending → wf → m.link = .down → m.goodRun = 7 →
      exec (.linkRestored bytes) s = .next (takeSegment (bytes.drop 74) (raiseNotice .linkRestored (leBytes 2 m.outage)
        (set { m with verdict := some .good, link := .up, badRun := 0, goodRun := 0, audio := heard }))) ∧
      exec i s = exec (.linkRestored bytes) s) ∧
    (m.assembler = .idle → body.length + pad.length = 11 →
      takeSegment ([0x03, code, tag] ++ leBytes 2 body.length ++ body ++ pad) s = dispatch code tag body s) ∧
    (∀ (ctl : Byte) (payload : List Byte), payload.length = 15 →
      let first := ctl.getLsbD 0
      let last := ctl.getLsbD 1
      let seg := ctl :: payload
      let refused (bytes : List Byte) (e : ErrorCode) (u : State) : State :=
        let v := { u with msg := { u.msg with framingErrors := min 65535 (u.msg.framingErrors + 1) } }
        if u.msg.resetPending = false ∧ u.msg.replies.length < 4 then
          appendReply (bytes.getD 0 0) (bytes.getD 1 0) (.err e) v else v
      let completed (n : Nat) (bytes : List Byte) (u : State) : State :=
        let v := { u with msg := { u.msg with assembler := .idle } }
        let len := (bytes.getD 2 0).toNat + 256 * (bytes.getD 3 0).toNat
        if n = (4 + len + 14) / 15 then dispatch (bytes.getD 0 0) (bytes.getD 1 0) ((bytes.drop 4).take len) v
        else refused bytes .badLength v
      let stray : State := set { m with assembler := .discarding, framingErrors := min 65535 (m.framingErrors + 1) }
      let begun (u : State) : State := { u with msg := { u.msg with assembler := .assembling 1 payload } }
      (ctl.getLsbD 2 = true → takeSegment seg s = s) ∧
      (ctl.getLsbD 2 = false →
        (m.assembler = .idle ∨ m.assembler = .discarding → first = true → last = false → takeSegment seg s = begun s) ∧
        (m.assembler = .idle ∨ m.assembler = .discarding → first = true → last = true →
          takeSegment seg s = completed 1 payload s) ∧
        (m.assembler = .idle → first = false → takeSegment seg s = stray) ∧
        (m.assembler = .discarding → first = false → takeSegment seg s = s) ∧
        (∀ n bytes, m.assembler = .assembling n bytes →
          (first = true → last = false → takeSegment seg s = begun (refused bytes .framing s)) ∧
          (first = true → last = true → takeSegment seg s = completed 1 payload (refused bytes .framing s)) ∧
          (first = false → last = true → takeSegment seg s = completed (n + 1) (bytes ++ payload) s) ∧
          (first = false → last = false → n + 1 < 16 →
            takeSegment seg s = set { m with assembler := .assembling (n + 1) (bytes ++ payload) }) ∧
          (first = false → last = false → n + 1 = 16 → takeSegment seg s =
            refused bytes .badLength (set { m with assembler := .discarding })))))

/-- Every message command of a well-formed body is spelled by its message bytes: code, tag, body length, body (R169, R180). -/
def Obligations.MessageBytesSpellTheirCommand : Prop := ∀ i : Instr, Sys2Proof.Laws.MessageCode.Statement i

/-! ## Event Queue -/

/-- Admission and the drain (R79, R81, R82, R84, R89): a live record enters at an occupancy of 95 or less with age 0, and is
refused and counted at 96, a NOTE_ON also as a drop, with QUEUE_OVERRUN while the flag is ARMED; a playback record enters at 63 or
less with its value limited, and is refused at 64; a drain places the six oldest in the slots, ages the rest by 1 and arms the
flag when it leaves the list empty. While the Player is WAITING an admitted live NOTE_ON is compared with the expected set (R147):
a match removes the entry of the lowest part, turns its light off and, emptying the set, returns to RUNNING; no match counts a
mistake and presents a MISS, the recorder being IDLE here. -/
def Obligations.TheEventQueueAdmitsAndDrains : Prop :=
  ∀ (ev : EventRecord) (s : State),
    let q := s.queue
    let n := q.records.length
    let counted : EventQueue := { q with refusals := min 65535 (q.refusals + 1) }
    let dropped : EventQueue := { counted with drops := min 65535 (q.drops + 1) }
    let limited : Nat := match ev.kind with
      | .noteOn | .guideOn => max 1 (min 127 ev.value)
      | .damper | .sostenuto | .soft => min 127 ev.value
      | .noteOff | .guideOff => 0
      | .miss => ev.value
    (n ≤ 95 → s.recorder.state = .idle → s.player.state ≠ .waiting →
      presentLive ev s = ({ s with queue := { q with records := q.records ++ [{ ev with age := 0 }] } }, true)) ∧
    (96 ≤ n → ev.kind ≠ .noteOn → presentLive ev s = ({ s with queue := counted }, false)) ∧
    (96 ≤ n → ev.kind = .noteOn → q.overrun = .sent → presentLive ev s = ({ s with queue := dropped }, false)) ∧
    (96 ≤ n → ev.kind = .noteOn → q.overrun = .armed → presentLive ev s = (raiseNotice .queueOverrun
      (leBytes 1 ev.key ++ leBytes 1 ev.value ++ leBytes 2 dropped.drops ++ leBytes 1 q.playbackCount)
      { s with queue := { dropped with overrun := .sent } }, false)) ∧
    (n ≤ 95 → ev.kind = .noteOn → s.recorder.state = .idle → s.player.state = .waiting →
      let p := s.player
      let entered := q.records ++ [{ ev with age := 0 }]
      let miss : EventRecord := { ev with kind := .miss, source := .playback, stream := .a, isRepeat := false, age := 0 }
      ((∀ e ∈ p.expected, e.2 ≠ ev.key) → presentLive ev s = ({ s with
        player := { p with mistakes := min 65535 (p.mistakes + 1) }
        queue := { q with records := if n ≤ 62 then entered ++ [miss] else entered } }, true)) ∧
      (∀ part, (part, ev.key) ∈ p.expected → (∀ e ∈ p.expected, e.2 = ev.key → part ≤ e.1) →
        let left := p.expected.filter (fun e => decide (e ≠ (part, ev.key)))
        let matched : Player := { p with expected := left, state := if left = [] then .running else .waiting }
        let off (st : Stream) : EventRecord :=
          { kind := .guideOff, source := .playback, stream := st, part := part, key := ev.key, value := 0, isRepeat := false
            offset := 0, age := 0 }
        (pairStream p.lit part ev.key = none → presentLive ev s =
          ({ s with player := matched, queue := { q with records := entered } }, true)) ∧
        (∀ st, pairStream p.lit part ev.key = some st →
          (n ≤ 62 → presentLive ev s = ({ s with
            player := { matched with lit := p.lit.filter (fun l => decide (¬ (l.part = part ∧ l.key = ev.key))) }
            queue := { q with records := entered ++ [off st] } }, true)) ∧
          (63 ≤ n → presentLive ev s = ({ s with player := matched, queue := { q with records := entered } }, true))))) ∧
    (n ≤ 63 → presentPlayback ev s =
      ({ s with queue := { q with records := q.records ++ [{ ev with value := limited, age := 0 }] } }, true)) ∧
    (64 ≤ n → presentPlayback ev s = (s, false)) ∧
    runWork .drain s = (none, { s with queue := { q with
      slots := q.records.take 6
      records := (q.records.drop 6).map (fun r => { r with age := min 255 (r.age + 1) })
      overrun := if n ≤ 6 then .armed else q.overrun } })

/-! ## What every step keeps -/

/-- What every moment keeps (Inv) holds of the machine right after reset: the bounds of R82, R158, R164 and R173, event memory's
canonical form, the live gate (R111), the Fault List (R69), the Player's sets (R136, R147), the driver (R92), the counters (R77,
R131). The canonical form is the model's (log 8). -/
def Obligations.InvHoldsAtReset : Prop := Inv State.reset

/-- Every step keeps the bounds of the Event Queue (R82) and of the reply and notice queues (R173); the Fault List with at most 8
keys, none twice and each in FAULT, every FAULT key listed or the overflow flag set, and no FAULT key in the flight set or the
sostenuto set (R69); and the Player's sets: nothing sounds while it is STOPPED (R136), at most 16 entries are expected, and any
only while it is WAITING (R147), and the sounding and the lit set in strictly ascending order (R131). It also keeps the refusal
and drop counters at 65535 or less (R77), the hold counter at 15 or less (R131), and a message under assembly at 1 to 15 segments
of 15 bytes each (R169, R170). -/
def Obligations.EveryStepKeepsTheQueuesBounded : Prop :=
  (∀ s t : State, queueBounded s → linkQueuesBounded s → step s = .next t → queueBounded t ∧ linkQueuesBounded t) ∧
  (∀ s t : State, faultListKept s → step s = .next t → faultListKept t) ∧
  (∀ s t : State, playerSetsKept s → step s = .next t → playerSetsKept t) ∧
  (∀ s t : State, countersKept s → step s = .next t → countersKept t)

/-- Every step keeps event memory in its canonical form (R114). -/
def Obligations.EveryStepKeepsMemoryCanonical : Prop :=
  ∀ s t : State, Memory.wf s.memory = true → step s = .next t → Memory.wf t.memory = true

/-- Every step keeps the balance and its targets within 0..32768 (R158), every headphone sample within 24 bits (R164), the live
gate as the rail state, origin and monitor flag put it, in the Rail Controller and in the Mixer alike (R111), and the rail driver
in DRIVE_IN or DRIVE_OUT only while the rail is ENGAGING or RELEASING and the interlock as last evaluated is satisfied (R92,
R97). -/
def Obligations.EveryStepKeepsTheMixerInBounds : Prop :=
  (∀ s t : State, balanceBounded s → samplesBounded s → gateAgrees s → step s = .next t →
    balanceBounded t ∧ samplesBounded t ∧ gateAgrees t) ∧
  (∀ s t : State, driverGuarded s → step s = .next t → driverGuarded t)
end

