-- ==== Sys2Proof/Laws/State.lean ====
section
/-! SUPPORT. One lemma per field per update of State: what an update leaves as it was, and what it puts there. -/

namespace Sys2Proof.Machine

/-! ### State.drawn -/

@[simp] theorem State.drawn_clock (s : State) (n : Nat) : (s.drawn n).clock = s.clock := rfl
@[simp] theorem State.drawn_scan (s : State) (n : Nat) : (s.drawn n).scan = s.scan := rfl
@[simp] theorem State.drawn_tracker (s : State) (n : Nat) : (s.drawn n).tracker = s.tracker := rfl
@[simp] theorem State.drawn_pedalUnit (s : State) (n : Nat) : (s.drawn n).pedalUnit = s.pedalUnit := rfl
@[simp] theorem State.drawn_cal (s : State) (n : Nat) : (s.drawn n).cal = s.cal := rfl
@[simp] theorem State.drawn_store (s : State) (n : Nat) : (s.drawn n).store = s.store := rfl
@[simp] theorem State.drawn_queue (s : State) (n : Nat) : (s.drawn n).queue = s.queue := rfl
@[simp] theorem State.drawn_rail (s : State) (n : Nat) : (s.drawn n).rail = s.rail := rfl
@[simp] theorem State.drawn_memory (s : State) (n : Nat) : (s.drawn n).memory = s.memory := rfl
@[simp] theorem State.drawn_recorder (s : State) (n : Nat) : (s.drawn n).recorder = s.recorder := rfl
@[simp] theorem State.drawn_player (s : State) (n : Nat) : (s.drawn n).player = s.player := rfl
@[simp] theorem State.drawn_mixer (s : State) (n : Nat) : (s.drawn n).mixer = s.mixer := rfl
@[simp] theorem State.drawn_msg (s : State) (n : Nat) : (s.drawn n).msg = s.msg := rfl
@[simp] theorem State.drawn_free (s : State) (n : Nat) : (s.drawn n).free = s.free + n := rfl
@[simp] theorem State.drawn_pending (s : State) (n : Nat) : (s.drawn n).pending = s.pending := rfl

/-! ### State.setKey -/

@[simp] theorem State.setKey_clock (s : State) (k : KeyIdx) (r : KeyRecord) : (s.setKey k r).clock = s.clock := rfl
@[simp] theorem State.setKey_scan (s : State) (k : KeyIdx) (r : KeyRecord) : (s.setKey k r).scan = s.scan := rfl
@[simp] theorem State.setKey_pedalUnit (s : State) (k : KeyIdx) (r : KeyRecord) : (s.setKey k r).pedalUnit = s.pedalUnit := rfl
@[simp] theorem State.setKey_cal (s : State) (k : KeyIdx) (r : KeyRecord) : (s.setKey k r).cal = s.cal := rfl
@[simp] theorem State.setKey_store (s : State) (k : KeyIdx) (r : KeyRecord) : (s.setKey k r).store = s.store := rfl
@[simp] theorem State.setKey_queue (s : State) (k : KeyIdx) (r : KeyRecord) : (s.setKey k r).queue = s.queue := rfl
@[simp] theorem State.setKey_rail (s : State) (k : KeyIdx) (r : KeyRecord) : (s.setKey k r).rail = s.rail := rfl
@[simp] theorem State.setKey_memory (s : State) (k : KeyIdx) (r : KeyRecord) : (s.setKey k r).memory = s.memory := rfl
@[simp] theorem State.setKey_recorder (s : State) (k : KeyIdx) (r : KeyRecord) : (s.setKey k r).recorder = s.recorder := rfl
@[simp] theorem State.setKey_player (s : State) (k : KeyIdx) (r : KeyRecord) : (s.setKey k r).player = s.player := rfl
@[simp] theorem State.setKey_mixer (s : State) (k : KeyIdx) (r : KeyRecord) : (s.setKey k r).mixer = s.mixer := rfl
@[simp] theorem State.setKey_msg (s : State) (k : KeyIdx) (r : KeyRecord) : (s.setKey k r).msg = s.msg := rfl
@[simp] theorem State.setKey_free (s : State) (k : KeyIdx) (r : KeyRecord) : (s.setKey k r).free = s.free := rfl
@[simp] theorem State.setKey_pending (s : State) (k : KeyIdx) (r : KeyRecord) : (s.setKey k r).pending = s.pending := rfl

/-! ### State.setPedal -/

@[simp] theorem State.setPedal_clock (s : State) (p : PedalIdx) (r : PedalRecord) : (s.setPedal p r).clock = s.clock := rfl
@[simp] theorem State.setPedal_scan (s : State) (p : PedalIdx) (r : PedalRecord) : (s.setPedal p r).scan = s.scan := rfl
@[simp] theorem State.setPedal_tracker (s : State) (p : PedalIdx) (r : PedalRecord) : (s.setPedal p r).tracker = s.tracker := rfl
@[simp] theorem State.setPedal_cal (s : State) (p : PedalIdx) (r : PedalRecord) : (s.setPedal p r).cal = s.cal := rfl
@[simp] theorem State.setPedal_store (s : State) (p : PedalIdx) (r : PedalRecord) : (s.setPedal p r).store = s.store := rfl
@[simp] theorem State.setPedal_queue (s : State) (p : PedalIdx) (r : PedalRecord) : (s.setPedal p r).queue = s.queue := rfl
@[simp] theorem State.setPedal_rail (s : State) (p : PedalIdx) (r : PedalRecord) : (s.setPedal p r).rail = s.rail := rfl
@[simp] theorem State.setPedal_memory (s : State) (p : PedalIdx) (r : PedalRecord) : (s.setPedal p r).memory = s.memory := rfl
@[simp] theorem State.setPedal_recorder (s : State) (p : PedalIdx) (r : PedalRecord) : (s.setPedal p r).recorder = s.recorder := rfl
@[simp] theorem State.setPedal_player (s : State) (p : PedalIdx) (r : PedalRecord) : (s.setPedal p r).player = s.player := rfl
@[simp] theorem State.setPedal_mixer (s : State) (p : PedalIdx) (r : PedalRecord) : (s.setPedal p r).mixer = s.mixer := rfl
@[simp] theorem State.setPedal_msg (s : State) (p : PedalIdx) (r : PedalRecord) : (s.setPedal p r).msg = s.msg := rfl
@[simp] theorem State.setPedal_free (s : State) (p : PedalIdx) (r : PedalRecord) : (s.setPedal p r).free = s.free := rfl
@[simp] theorem State.setPedal_pending (s : State) (p : PedalIdx) (r : PedalRecord) : (s.setPedal p r).pending = s.pending := rfl

/-! ### State.mapPlayer -/

@[simp] theorem State.mapPlayer_clock (f : Player → Player) (s : State) : (s.mapPlayer f).clock = s.clock := rfl
@[simp] theorem State.mapPlayer_scan (f : Player → Player) (s : State) : (s.mapPlayer f).scan = s.scan := rfl
@[simp] theorem State.mapPlayer_tracker (f : Player → Player) (s : State) : (s.mapPlayer f).tracker = s.tracker := rfl
@[simp] theorem State.mapPlayer_pedalUnit (f : Player → Player) (s : State) : (s.mapPlayer f).pedalUnit = s.pedalUnit := rfl
@[simp] theorem State.mapPlayer_cal (f : Player → Player) (s : State) : (s.mapPlayer f).cal = s.cal := rfl
@[simp] theorem State.mapPlayer_store (f : Player → Player) (s : State) : (s.mapPlayer f).store = s.store := rfl
@[simp] theorem State.mapPlayer_queue (f : Player → Player) (s : State) : (s.mapPlayer f).queue = s.queue := rfl
@[simp] theorem State.mapPlayer_rail (f : Player → Player) (s : State) : (s.mapPlayer f).rail = s.rail := rfl
@[simp] theorem State.mapPlayer_memory (f : Player → Player) (s : State) : (s.mapPlayer f).memory = s.memory := rfl
@[simp] theorem State.mapPlayer_recorder (f : Player → Player) (s : State) : (s.mapPlayer f).recorder = s.recorder := rfl
@[simp] theorem State.mapPlayer_player (f : Player → Player) (s : State) : (s.mapPlayer f).player = f s.player := rfl
@[simp] theorem State.mapPlayer_mixer (f : Player → Player) (s : State) : (s.mapPlayer f).mixer = s.mixer := rfl
@[simp] theorem State.mapPlayer_msg (f : Player → Player) (s : State) : (s.mapPlayer f).msg = s.msg := rfl
@[simp] theorem State.mapPlayer_free (f : Player → Player) (s : State) : (s.mapPlayer f).free = s.free := rfl
@[simp] theorem State.mapPlayer_pending (f : Player → Player) (s : State) : (s.mapPlayer f).pending = s.pending := rfl

/-! ### State.mapScan -/

@[simp] theorem State.mapScan_clock (f : ScanReceiver → ScanReceiver) (s : State) : (s.mapScan f).clock = s.clock := rfl
@[simp] theorem State.mapScan_scan (f : ScanReceiver → ScanReceiver) (s : State) : (s.mapScan f).scan = f s.scan := rfl
@[simp] theorem State.mapScan_tracker (f : ScanReceiver → ScanReceiver) (s : State) : (s.mapScan f).tracker = s.tracker := rfl
@[simp] theorem State.mapScan_pedalUnit (f : ScanReceiver → ScanReceiver) (s : State) : (s.mapScan f).pedalUnit = s.pedalUnit := rfl
@[simp] theorem State.mapScan_cal (f : ScanReceiver → ScanReceiver) (s : State) : (s.mapScan f).cal = s.cal := rfl
@[simp] theorem State.mapScan_store (f : ScanReceiver → ScanReceiver) (s : State) : (s.mapScan f).store = s.store := rfl
@[simp] theorem State.mapScan_queue (f : ScanReceiver → ScanReceiver) (s : State) : (s.mapScan f).queue = s.queue := rfl
@[simp] theorem State.mapScan_rail (f : ScanReceiver → ScanReceiver) (s : State) : (s.mapScan f).rail = s.rail := rfl
@[simp] theorem State.mapScan_memory (f : ScanReceiver → ScanReceiver) (s : State) : (s.mapScan f).memory = s.memory := rfl
@[simp] theorem State.mapScan_recorder (f : ScanReceiver → ScanReceiver) (s : State) : (s.mapScan f).recorder = s.recorder := rfl
@[simp] theorem State.mapScan_player (f : ScanReceiver → ScanReceiver) (s : State) : (s.mapScan f).player = s.player := rfl
@[simp] theorem State.mapScan_mixer (f : ScanReceiver → ScanReceiver) (s : State) : (s.mapScan f).mixer = s.mixer := rfl
@[simp] theorem State.mapScan_msg (f : ScanReceiver → ScanReceiver) (s : State) : (s.mapScan f).msg = s.msg := rfl
@[simp] theorem State.mapScan_free (f : ScanReceiver → ScanReceiver) (s : State) : (s.mapScan f).free = s.free := rfl
@[simp] theorem State.mapScan_pending (f : ScanReceiver → ScanReceiver) (s : State) : (s.mapScan f).pending = s.pending := rfl

/-! ### State.mapMsg -/

@[simp] theorem State.mapMsg_clock (f : MessageUnit → MessageUnit) (s : State) : (s.mapMsg f).clock = s.clock := rfl
@[simp] theorem State.mapMsg_scan (f : MessageUnit → MessageUnit) (s : State) : (s.mapMsg f).scan = s.scan := rfl
@[simp] theorem State.mapMsg_tracker (f : MessageUnit → MessageUnit) (s : State) : (s.mapMsg f).tracker = s.tracker := rfl
@[simp] theorem State.mapMsg_pedalUnit (f : MessageUnit → MessageUnit) (s : State) : (s.mapMsg f).pedalUnit = s.pedalUnit := rfl
@[simp] theorem State.mapMsg_cal (f : MessageUnit → MessageUnit) (s : State) : (s.mapMsg f).cal = s.cal := rfl
@[simp] theorem State.mapMsg_store (f : MessageUnit → MessageUnit) (s : State) : (s.mapMsg f).store = s.store := rfl
@[simp] theorem State.mapMsg_queue (f : MessageUnit → MessageUnit) (s : State) : (s.mapMsg f).queue = s.queue := rfl
@[simp] theorem State.mapMsg_rail (f : MessageUnit → MessageUnit) (s : State) : (s.mapMsg f).rail = s.rail := rfl
@[simp] theorem State.mapMsg_memory (f : MessageUnit → MessageUnit) (s : State) : (s.mapMsg f).memory = s.memory := rfl
@[simp] theorem State.mapMsg_recorder (f : MessageUnit → MessageUnit) (s : State) : (s.mapMsg f).recorder = s.recorder := rfl
@[simp] theorem State.mapMsg_player (f : MessageUnit → MessageUnit) (s : State) : (s.mapMsg f).player = s.player := rfl
@[simp] theorem State.mapMsg_mixer (f : MessageUnit → MessageUnit) (s : State) : (s.mapMsg f).mixer = s.mixer := rfl
@[simp] theorem State.mapMsg_msg (f : MessageUnit → MessageUnit) (s : State) : (s.mapMsg f).msg = f s.msg := rfl
@[simp] theorem State.mapMsg_free (f : MessageUnit → MessageUnit) (s : State) : (s.mapMsg f).free = s.free := rfl
@[simp] theorem State.mapMsg_pending (f : MessageUnit → MessageUnit) (s : State) : (s.mapMsg f).pending = s.pending := rfl

/-! ### State.mapMixer -/

@[simp] theorem State.mapMixer_clock (f : Mixer → Mixer) (s : State) : (s.mapMixer f).clock = s.clock := rfl
@[simp] theorem State.mapMixer_scan (f : Mixer → Mixer) (s : State) : (s.mapMixer f).scan = s.scan := rfl
@[simp] theorem State.mapMixer_tracker (f : Mixer → Mixer) (s : State) : (s.mapMixer f).tracker = s.tracker := rfl
@[simp] theorem State.mapMixer_pedalUnit (f : Mixer → Mixer) (s : State) : (s.mapMixer f).pedalUnit = s.pedalUnit := rfl
@[simp] theorem State.mapMixer_cal (f : Mixer → Mixer) (s : State) : (s.mapMixer f).cal = s.cal := rfl
@[simp] theorem State.mapMixer_store (f : Mixer → Mixer) (s : State) : (s.mapMixer f).store = s.store := rfl
@[simp] theorem State.mapMixer_queue (f : Mixer → Mixer) (s : State) : (s.mapMixer f).queue = s.queue := rfl
@[simp] theorem State.mapMixer_rail (f : Mixer → Mixer) (s : State) : (s.mapMixer f).rail = s.rail := rfl
@[simp] theorem State.mapMixer_memory (f : Mixer → Mixer) (s : State) : (s.mapMixer f).memory = s.memory := rfl
@[simp] theorem State.mapMixer_recorder (f : Mixer → Mixer) (s : State) : (s.mapMixer f).recorder = s.recorder := rfl
@[simp] theorem State.mapMixer_player (f : Mixer → Mixer) (s : State) : (s.mapMixer f).player = s.player := rfl
@[simp] theorem State.mapMixer_mixer (f : Mixer → Mixer) (s : State) : (s.mapMixer f).mixer = f s.mixer := rfl
@[simp] theorem State.mapMixer_msg (f : Mixer → Mixer) (s : State) : (s.mapMixer f).msg = s.msg := rfl
@[simp] theorem State.mapMixer_free (f : Mixer → Mixer) (s : State) : (s.mapMixer f).free = s.free := rfl
@[simp] theorem State.mapMixer_pending (f : Mixer → Mixer) (s : State) : (s.mapMixer f).pending = s.pending := rfl

/-! ### State.withPending -/

@[simp] theorem State.withPending_clock (s : State) (cs : List Instr) : (s.withPending cs).clock = s.clock := rfl
@[simp] theorem State.withPending_scan (s : State) (cs : List Instr) : (s.withPending cs).scan = s.scan := rfl
@[simp] theorem State.withPending_tracker (s : State) (cs : List Instr) : (s.withPending cs).tracker = s.tracker := rfl
@[simp] theorem State.withPending_pedalUnit (s : State) (cs : List Instr) : (s.withPending cs).pedalUnit = s.pedalUnit := rfl
@[simp] theorem State.withPending_cal (s : State) (cs : List Instr) : (s.withPending cs).cal = s.cal := rfl
@[simp] theorem State.withPending_store (s : State) (cs : List Instr) : (s.withPending cs).store = s.store := rfl
@[simp] theorem State.withPending_queue (s : State) (cs : List Instr) : (s.withPending cs).queue = s.queue := rfl
@[simp] theorem State.withPending_rail (s : State) (cs : List Instr) : (s.withPending cs).rail = s.rail := rfl
@[simp] theorem State.withPending_memory (s : State) (cs : List Instr) : (s.withPending cs).memory = s.memory := rfl
@[simp] theorem State.withPending_recorder (s : State) (cs : List Instr) : (s.withPending cs).recorder = s.recorder := rfl
@[simp] theorem State.withPending_player (s : State) (cs : List Instr) : (s.withPending cs).player = s.player := rfl
@[simp] theorem State.withPending_mixer (s : State) (cs : List Instr) : (s.withPending cs).mixer = s.mixer := rfl
@[simp] theorem State.withPending_msg (s : State) (cs : List Instr) : (s.withPending cs).msg = s.msg := rfl
@[simp] theorem State.withPending_free (s : State) (cs : List Instr) : (s.withPending cs).free = s.free := rfl
@[simp] theorem State.withPending_pending (s : State) (cs : List Instr) : (s.withPending cs).pending = cs := rfl

/-! ### State.ticked -/

@[simp] theorem State.ticked_clock (s : State) : s.ticked.clock = tickClock s.clock := rfl
@[simp] theorem State.ticked_scan (s : State) : s.ticked.scan = s.scan := rfl
@[simp] theorem State.ticked_tracker (s : State) : s.ticked.tracker = s.tracker := rfl
@[simp] theorem State.ticked_pedalUnit (s : State) : s.ticked.pedalUnit = s.pedalUnit := rfl
@[simp] theorem State.ticked_cal (s : State) : s.ticked.cal = s.cal := rfl
@[simp] theorem State.ticked_store (s : State) : s.ticked.store = s.store := rfl
@[simp] theorem State.ticked_queue (s : State) : s.ticked.queue = s.queue := rfl
@[simp] theorem State.ticked_rail (s : State) : s.ticked.rail = s.rail := rfl
@[simp] theorem State.ticked_memory (s : State) : s.ticked.memory = s.memory := rfl
@[simp] theorem State.ticked_recorder (s : State) : s.ticked.recorder = s.recorder := rfl
@[simp] theorem State.ticked_player (s : State) : s.ticked.player = s.player := rfl
@[simp] theorem State.ticked_mixer (s : State) : s.ticked.mixer = s.mixer := rfl
@[simp] theorem State.ticked_msg (s : State) : s.ticked.msg = s.msg := rfl
@[simp] theorem State.ticked_free (s : State) : s.ticked.free = s.free := rfl
@[simp] theorem State.ticked_pending (s : State) : s.ticked.pending = s.pending := rfl

/-! ### State.setRail -/

@[simp] theorem State.setRail_clock (s : State) (r : Rail) : (s.setRail r).clock = s.clock := rfl
@[simp] theorem State.setRail_scan (s : State) (r : Rail) : (s.setRail r).scan = s.scan := rfl
@[simp] theorem State.setRail_tracker (s : State) (r : Rail) : (s.setRail r).tracker = s.tracker := rfl
@[simp] theorem State.setRail_pedalUnit (s : State) (r : Rail) : (s.setRail r).pedalUnit = s.pedalUnit := rfl
@[simp] theorem State.setRail_cal (s : State) (r : Rail) : (s.setRail r).cal = s.cal := rfl
@[simp] theorem State.setRail_store (s : State) (r : Rail) : (s.setRail r).store = s.store := rfl
@[simp] theorem State.setRail_queue (s : State) (r : Rail) : (s.setRail r).queue = s.queue := rfl
@[simp] theorem State.setRail_rail (s : State) (r : Rail) : (s.setRail r).rail = { r with gate := gateOf r.state r.origin r.monitor } := rfl
@[simp] theorem State.setRail_memory (s : State) (r : Rail) : (s.setRail r).memory = s.memory := rfl
@[simp] theorem State.setRail_recorder (s : State) (r : Rail) : (s.setRail r).recorder = s.recorder := rfl
@[simp] theorem State.setRail_player (s : State) (r : Rail) : (s.setRail r).player = s.player := rfl
@[simp] theorem State.setRail_mixer (s : State) (r : Rail) : (s.setRail r).mixer = { s.mixer with gate := gateOf r.state r.origin r.monitor } := rfl
@[simp] theorem State.setRail_msg (s : State) (r : Rail) : (s.setRail r).msg = s.msg := rfl
@[simp] theorem State.setRail_free (s : State) (r : Rail) : (s.setRail r).free = s.free := rfl
@[simp] theorem State.setRail_pending (s : State) (r : Rail) : (s.setRail r).pending = s.pending := rfl

/-! ### State.moveRail -/

@[simp] theorem State.moveRail_clock (s : State) (r : Rail) : (s.moveRail r).clock = s.clock := rfl
@[simp] theorem State.moveRail_scan (s : State) (r : Rail) : (s.moveRail r).scan = s.scan := rfl
@[simp] theorem State.moveRail_tracker (s : State) (r : Rail) : (s.moveRail r).tracker = s.tracker := rfl
@[simp] theorem State.moveRail_pedalUnit (s : State) (r : Rail) : (s.moveRail r).pedalUnit = s.pedalUnit := rfl
@[simp] theorem State.moveRail_cal (s : State) (r : Rail) : (s.moveRail r).cal = s.cal := rfl
@[simp] theorem State.moveRail_store (s : State) (r : Rail) : (s.moveRail r).store = s.store := rfl
@[simp] theorem State.moveRail_queue (s : State) (r : Rail) : (s.moveRail r).queue = s.queue := rfl
@[simp] theorem State.moveRail_memory (s : State) (r : Rail) : (s.moveRail r).memory = s.memory := rfl
@[simp] theorem State.moveRail_recorder (s : State) (r : Rail) : (s.moveRail r).recorder = s.recorder := rfl
@[simp] theorem State.moveRail_player (s : State) (r : Rail) : (s.moveRail r).player = s.player := rfl
@[simp] theorem State.moveRail_mixer (s : State) (r : Rail) : (s.moveRail r).mixer = { s.mixer with gate := gateOf r.state r.origin r.monitor } := rfl
@[simp] theorem State.moveRail_msg (s : State) (r : Rail) : (s.moveRail r).msg = s.msg := rfl
@[simp] theorem State.moveRail_free (s : State) (r : Rail) : (s.moveRail r).free = s.free := rfl
@[simp] theorem State.moveRail_pending (s : State) (r : Rail) : (s.moveRail r).pending = s.pending := rfl

/-! ### recomputeSets -/

@[simp] theorem recomputeSets_clock (s : State) : (recomputeSets s).clock = s.clock := rfl
@[simp] theorem recomputeSets_scan (s : State) : (recomputeSets s).scan = s.scan := rfl
@[simp] theorem recomputeSets_pedalUnit (s : State) : (recomputeSets s).pedalUnit = s.pedalUnit := rfl
@[simp] theorem recomputeSets_cal (s : State) : (recomputeSets s).cal = s.cal := rfl
@[simp] theorem recomputeSets_store (s : State) : (recomputeSets s).store = s.store := rfl
@[simp] theorem recomputeSets_queue (s : State) : (recomputeSets s).queue = s.queue := rfl
@[simp] theorem recomputeSets_rail (s : State) : (recomputeSets s).rail = s.rail := rfl
@[simp] theorem recomputeSets_memory (s : State) : (recomputeSets s).memory = s.memory := rfl
@[simp] theorem recomputeSets_recorder (s : State) : (recomputeSets s).recorder = s.recorder := rfl
@[simp] theorem recomputeSets_player (s : State) : (recomputeSets s).player = s.player := rfl
@[simp] theorem recomputeSets_mixer (s : State) : (recomputeSets s).mixer = s.mixer := rfl
@[simp] theorem recomputeSets_msg (s : State) : (recomputeSets s).msg = s.msg := rfl
@[simp] theorem recomputeSets_free (s : State) : (recomputeSets s).free = s.free := rfl
@[simp] theorem recomputeSets_pending (s : State) : (recomputeSets s).pending = s.pending := rfl

/-! ### appendReply -/

@[simp] theorem appendReply_clock (code tag : Byte) (r : MsgResult) (s : State) : (appendReply code tag r s).clock = s.clock := rfl
@[simp] theorem appendReply_scan (code tag : Byte) (r : MsgResult) (s : State) : (appendReply code tag r s).scan = s.scan := rfl
@[simp] theorem appendReply_tracker (code tag : Byte) (r : MsgResult) (s : State) : (appendReply code tag r s).tracker = s.tracker := rfl
@[simp] theorem appendReply_pedalUnit (code tag : Byte) (r : MsgResult) (s : State) : (appendReply code tag r s).pedalUnit = s.pedalUnit := rfl
@[simp] theorem appendReply_cal (code tag : Byte) (r : MsgResult) (s : State) : (appendReply code tag r s).cal = s.cal := rfl
@[simp] theorem appendReply_store (code tag : Byte) (r : MsgResult) (s : State) : (appendReply code tag r s).store = s.store := rfl
@[simp] theorem appendReply_queue (code tag : Byte) (r : MsgResult) (s : State) : (appendReply code tag r s).queue = s.queue := rfl
@[simp] theorem appendReply_rail (code tag : Byte) (r : MsgResult) (s : State) : (appendReply code tag r s).rail = s.rail := rfl
@[simp] theorem appendReply_memory (code tag : Byte) (r : MsgResult) (s : State) : (appendReply code tag r s).memory = s.memory := rfl
@[simp] theorem appendReply_recorder (code tag : Byte) (r : MsgResult) (s : State) : (appendReply code tag r s).recorder = s.recorder := rfl
@[simp] theorem appendReply_player (code tag : Byte) (r : MsgResult) (s : State) : (appendReply code tag r s).player = s.player := rfl
@[simp] theorem appendReply_mixer (code tag : Byte) (r : MsgResult) (s : State) : (appendReply code tag r s).mixer = s.mixer := rfl
@[simp] theorem appendReply_free (code tag : Byte) (r : MsgResult) (s : State) : (appendReply code tag r s).free = s.free := rfl
@[simp] theorem appendReply_pending (code tag : Byte) (r : MsgResult) (s : State) : (appendReply code tag r s).pending = s.pending := rfl

/-! ### enqueue -/

@[simp] theorem enqueue_clock (r : EventRecord) (s : State) : (enqueue r s).clock = s.clock := rfl
@[simp] theorem enqueue_scan (r : EventRecord) (s : State) : (enqueue r s).scan = s.scan := rfl
@[simp] theorem enqueue_tracker (r : EventRecord) (s : State) : (enqueue r s).tracker = s.tracker := rfl
@[simp] theorem enqueue_pedalUnit (r : EventRecord) (s : State) : (enqueue r s).pedalUnit = s.pedalUnit := rfl
@[simp] theorem enqueue_cal (r : EventRecord) (s : State) : (enqueue r s).cal = s.cal := rfl
@[simp] theorem enqueue_store (r : EventRecord) (s : State) : (enqueue r s).store = s.store := rfl
@[simp] theorem enqueue_rail (r : EventRecord) (s : State) : (enqueue r s).rail = s.rail := rfl
@[simp] theorem enqueue_memory (r : EventRecord) (s : State) : (enqueue r s).memory = s.memory := rfl
@[simp] theorem enqueue_recorder (r : EventRecord) (s : State) : (enqueue r s).recorder = s.recorder := rfl
@[simp] theorem enqueue_player (r : EventRecord) (s : State) : (enqueue r s).player = s.player := rfl
@[simp] theorem enqueue_mixer (r : EventRecord) (s : State) : (enqueue r s).mixer = s.mixer := rfl
@[simp] theorem enqueue_msg (r : EventRecord) (s : State) : (enqueue r s).msg = s.msg := rfl
@[simp] theorem enqueue_free (r : EventRecord) (s : State) : (enqueue r s).free = s.free := rfl
@[simp] theorem enqueue_pending (r : EventRecord) (s : State) : (enqueue r s).pending = s.pending := rfl

/-! ### appendTake -/

@[simp] theorem appendTake_clock (r : TakeRecord) (s : State) : (appendTake r s).clock = s.clock := rfl
@[simp] theorem appendTake_scan (r : TakeRecord) (s : State) : (appendTake r s).scan = s.scan := rfl
@[simp] theorem appendTake_tracker (r : TakeRecord) (s : State) : (appendTake r s).tracker = s.tracker := rfl
@[simp] theorem appendTake_pedalUnit (r : TakeRecord) (s : State) : (appendTake r s).pedalUnit = s.pedalUnit := rfl
@[simp] theorem appendTake_cal (r : TakeRecord) (s : State) : (appendTake r s).cal = s.cal := rfl
@[simp] theorem appendTake_store (r : TakeRecord) (s : State) : (appendTake r s).store = s.store := rfl
@[simp] theorem appendTake_queue (r : TakeRecord) (s : State) : (appendTake r s).queue = s.queue := rfl
@[simp] theorem appendTake_rail (r : TakeRecord) (s : State) : (appendTake r s).rail = s.rail := rfl
@[simp] theorem appendTake_recorder (r : TakeRecord) (s : State) : (appendTake r s).recorder = s.recorder := rfl
@[simp] theorem appendTake_player (r : TakeRecord) (s : State) : (appendTake r s).player = s.player := rfl
@[simp] theorem appendTake_mixer (r : TakeRecord) (s : State) : (appendTake r s).mixer = s.mixer := rfl
@[simp] theorem appendTake_msg (r : TakeRecord) (s : State) : (appendTake r s).msg = s.msg := rfl
@[simp] theorem appendTake_free (r : TakeRecord) (s : State) : (appendTake r s).free = s.free := rfl
@[simp] theorem appendTake_pending (r : TakeRecord) (s : State) : (appendTake r s).pending = s.pending := rfl

/-! ### latch -/

@[simp] theorem latch_clock (sw : Switches) (s : State) : (latch sw s).clock = s.clock := rfl
@[simp] theorem latch_scan (sw : Switches) (s : State) : (latch sw s).scan = s.scan := rfl
@[simp] theorem latch_tracker (sw : Switches) (s : State) : (latch sw s).tracker = s.tracker := rfl
@[simp] theorem latch_pedalUnit (sw : Switches) (s : State) : (latch sw s).pedalUnit = s.pedalUnit := rfl
@[simp] theorem latch_cal (sw : Switches) (s : State) : (latch sw s).cal = s.cal := rfl
@[simp] theorem latch_store (sw : Switches) (s : State) : (latch sw s).store = s.store := rfl
@[simp] theorem latch_queue (sw : Switches) (s : State) : (latch sw s).queue = s.queue := rfl
@[simp] theorem latch_rail (sw : Switches) (s : State) : (latch sw s).rail = { s.rail with acousticSwitch := sw.acoustic, silentSwitch := sw.silent } := rfl
@[simp] theorem latch_memory (sw : Switches) (s : State) : (latch sw s).memory = s.memory := rfl
@[simp] theorem latch_recorder (sw : Switches) (s : State) : (latch sw s).recorder = s.recorder := rfl
@[simp] theorem latch_player (sw : Switches) (s : State) : (latch sw s).player = s.player := rfl
@[simp] theorem latch_mixer (sw : Switches) (s : State) : (latch sw s).mixer = s.mixer := rfl
@[simp] theorem latch_msg (sw : Switches) (s : State) : (latch sw s).msg = s.msg := rfl
@[simp] theorem latch_free (sw : Switches) (s : State) : (latch sw s).free = s.free := rfl
@[simp] theorem latch_pending (sw : Switches) (s : State) : (latch sw s).pending = s.pending := rfl

/-! ### evaluate -/

@[simp] theorem evaluate_clock (s : State) : (evaluate s).clock = s.clock := rfl
@[simp] theorem evaluate_scan (s : State) : (evaluate s).scan = s.scan := rfl
@[simp] theorem evaluate_tracker (s : State) : (evaluate s).tracker = s.tracker := rfl
@[simp] theorem evaluate_pedalUnit (s : State) : (evaluate s).pedalUnit = s.pedalUnit := rfl
@[simp] theorem evaluate_cal (s : State) : (evaluate s).cal = s.cal := rfl
@[simp] theorem evaluate_store (s : State) : (evaluate s).store = s.store := rfl
@[simp] theorem evaluate_queue (s : State) : (evaluate s).queue = s.queue := rfl
@[simp] theorem evaluate_rail (s : State) : (evaluate s).rail = { s.rail with eval := interlockNow s } := rfl
@[simp] theorem evaluate_memory (s : State) : (evaluate s).memory = s.memory := rfl
@[simp] theorem evaluate_recorder (s : State) : (evaluate s).recorder = s.recorder := rfl
@[simp] theorem evaluate_player (s : State) : (evaluate s).player = s.player := rfl
@[simp] theorem evaluate_mixer (s : State) : (evaluate s).mixer = s.mixer := rfl
@[simp] theorem evaluate_msg (s : State) : (evaluate s).msg = s.msg := rfl
@[simp] theorem evaluate_free (s : State) : (evaluate s).free = s.free := rfl
@[simp] theorem evaluate_pending (s : State) : (evaluate s).pending = s.pending := rfl

/-! ### forgetStartTarget -/

@[simp] theorem forgetStartTarget_clock (s : State) : (forgetStartTarget s).clock = s.clock := rfl
@[simp] theorem forgetStartTarget_scan (s : State) : (forgetStartTarget s).scan = s.scan := rfl
@[simp] theorem forgetStartTarget_tracker (s : State) : (forgetStartTarget s).tracker = s.tracker := rfl
@[simp] theorem forgetStartTarget_pedalUnit (s : State) : (forgetStartTarget s).pedalUnit = s.pedalUnit := rfl
@[simp] theorem forgetStartTarget_cal (s : State) : (forgetStartTarget s).cal = s.cal := rfl
@[simp] theorem forgetStartTarget_store (s : State) : (forgetStartTarget s).store = s.store := rfl
@[simp] theorem forgetStartTarget_queue (s : State) : (forgetStartTarget s).queue = s.queue := rfl
@[simp] theorem forgetStartTarget_rail (s : State) : (forgetStartTarget s).rail = s.rail := rfl
@[simp] theorem forgetStartTarget_memory (s : State) : (forgetStartTarget s).memory = s.memory := rfl
@[simp] theorem forgetStartTarget_recorder (s : State) : (forgetStartTarget s).recorder = s.recorder := rfl
@[simp] theorem forgetStartTarget_player (s : State) : (forgetStartTarget s).player = { s.player with startTarget := none } := rfl
@[simp] theorem forgetStartTarget_mixer (s : State) : (forgetStartTarget s).mixer = s.mixer := rfl
@[simp] theorem forgetStartTarget_msg (s : State) : (forgetStartTarget s).msg = s.msg := rfl
@[simp] theorem forgetStartTarget_free (s : State) : (forgetStartTarget s).free = s.free := rfl
@[simp] theorem forgetStartTarget_pending (s : State) : (forgetStartTarget s).pending = s.pending := rfl

/-! ### raiseNotice -/

@[simp] theorem raiseNotice_clock (kind : NoticeKind) (data : List Byte) (s : State) :
    (raiseNotice kind data s).clock = s.clock := by unfold raiseNotice; split <;> rfl
@[simp] theorem raiseNotice_scan (kind : NoticeKind) (data : List Byte) (s : State) :
    (raiseNotice kind data s).scan = s.scan := by unfold raiseNotice; split <;> rfl
@[simp] theorem raiseNotice_tracker (kind : NoticeKind) (data : List Byte) (s : State) :
    (raiseNotice kind data s).tracker = s.tracker := by unfold raiseNotice; split <;> rfl
@[simp] theorem raiseNotice_pedalUnit (kind : NoticeKind) (data : List Byte) (s : State) :
    (raiseNotice kind data s).pedalUnit = s.pedalUnit := by unfold raiseNotice; split <;> rfl
@[simp] theorem raiseNotice_cal (kind : NoticeKind) (data : List Byte) (s : State) :
    (raiseNotice kind data s).cal = s.cal := by unfold raiseNotice; split <;> rfl
@[simp] theorem raiseNotice_store (kind : NoticeKind) (data : List Byte) (s : State) :
    (raiseNotice kind data s).store = s.store := by unfold raiseNotice; split <;> rfl
@[simp] theorem raiseNotice_queue (kind : NoticeKind) (data : List Byte) (s : State) :
    (raiseNotice kind data s).queue = s.queue := by unfold raiseNotice; split <;> rfl
@[simp] theorem raiseNotice_rail (kind : NoticeKind) (data : List Byte) (s : State) :
    (raiseNotice kind data s).rail = s.rail := by unfold raiseNotice; split <;> rfl
@[simp] theorem raiseNotice_memory (kind : NoticeKind) (data : List Byte) (s : State) :
    (raiseNotice kind data s).memory = s.memory := by unfold raiseNotice; split <;> rfl
@[simp] theorem raiseNotice_recorder (kind : NoticeKind) (data : List Byte) (s : State) :
    (raiseNotice kind data s).recorder = s.recorder := by unfold raiseNotice; split <;> rfl
@[simp] theorem raiseNotice_player (kind : NoticeKind) (data : List Byte) (s : State) :
    (raiseNotice kind data s).player = s.player := by unfold raiseNotice; split <;> rfl
@[simp] theorem raiseNotice_mixer (kind : NoticeKind) (data : List Byte) (s : State) :
    (raiseNotice kind data s).mixer = s.mixer := by unfold raiseNotice; split <;> rfl
@[simp] theorem raiseNotice_free (kind : NoticeKind) (data : List Byte) (s : State) :
    (raiseNotice kind data s).free = s.free := by unfold raiseNotice; split <;> rfl
@[simp] theorem raiseNotice_pending (kind : NoticeKind) (data : List Byte) (s : State) :
    (raiseNotice kind data s).pending = s.pending := by unfold raiseNotice; split <;> rfl
@[simp] theorem raiseNotice_msg_link (kind : NoticeKind) (data : List Byte) (s : State) :
    (raiseNotice kind data s).msg.link = s.msg.link := by unfold raiseNotice; split <;> rfl
@[simp] theorem raiseNotice_msg_badRun (kind : NoticeKind) (data : List Byte) (s : State) :
    (raiseNotice kind data s).msg.badRun = s.msg.badRun := by unfold raiseNotice; split <;> rfl
@[simp] theorem raiseNotice_msg_goodRun (kind : NoticeKind) (data : List Byte) (s : State) :
    (raiseNotice kind data s).msg.goodRun = s.msg.goodRun := by unfold raiseNotice; split <;> rfl
@[simp] theorem raiseNotice_msg_outage (kind : NoticeKind) (data : List Byte) (s : State) :
    (raiseNotice kind data s).msg.outage = s.msg.outage := by unfold raiseNotice; split <;> rfl
@[simp] theorem raiseNotice_msg_verdict (kind : NoticeKind) (data : List Byte) (s : State) :
    (raiseNotice kind data s).msg.verdict = s.msg.verdict := by unfold raiseNotice; split <;> rfl
@[simp] theorem raiseNotice_msg_audio (kind : NoticeKind) (data : List Byte) (s : State) :
    (raiseNotice kind data s).msg.audio = s.msg.audio := by unfold raiseNotice; split <;> rfl
@[simp] theorem raiseNotice_msg_assembler (kind : NoticeKind) (data : List Byte) (s : State) :
    (raiseNotice kind data s).msg.assembler = s.msg.assembler := by unfold raiseNotice; split <;> rfl
@[simp] theorem raiseNotice_msg_replies (kind : NoticeKind) (data : List Byte) (s : State) :
    (raiseNotice kind data s).msg.replies = s.msg.replies := by unfold raiseNotice; split <;> rfl
@[simp] theorem raiseNotice_msg_resetPending (kind : NoticeKind) (data : List Byte) (s : State) :
    (raiseNotice kind data s).msg.resetPending = s.msg.resetPending := by unfold raiseNotice; split <;> rfl
@[simp] theorem raiseNotice_msg_resetDue (kind : NoticeKind) (data : List Byte) (s : State) :
    (raiseNotice kind data s).msg.resetDue = s.msg.resetDue := by unfold raiseNotice; split <;> rfl
@[simp] theorem raiseNotice_msg_linkErrors (kind : NoticeKind) (data : List Byte) (s : State) :
    (raiseNotice kind data s).msg.linkErrors = s.msg.linkErrors := by unfold raiseNotice; split <;> rfl
@[simp] theorem raiseNotice_msg_framingErrors (kind : NoticeKind) (data : List Byte) (s : State) :
    (raiseNotice kind data s).msg.framingErrors = s.msg.framingErrors := by unfold raiseNotice; split <;> rfl
@[simp] theorem raiseNotice_msg_discarded (kind : NoticeKind) (data : List Byte) (s : State) :
    (raiseNotice kind data s).msg.discarded = s.msg.discarded := by unfold raiseNotice; split <;> rfl
@[simp] theorem raiseNotice_msg_upstream (kind : NoticeKind) (data : List Byte) (s : State) :
    (raiseNotice kind data s).msg.upstream = s.msg.upstream := by unfold raiseNotice; split <;> rfl

/-! ### appendReply within the Message Unit -/

/-- A reply is put at the tail of the reply queue. -/
@[simp] theorem appendReply_replies (code tag : Byte) (r : MsgResult) (s : State) :
    (appendReply code tag r s).msg.replies =
      s.msg.replies ++ [{ code := code, tag := tag, result := r, sent := 0 }] := rfl

@[simp] theorem appendReply_msg_link (code tag : Byte) (r : MsgResult) (s : State) :
    (appendReply code tag r s).msg.link = s.msg.link := rfl
@[simp] theorem appendReply_msg_badRun (code tag : Byte) (r : MsgResult) (s : State) :
    (appendReply code tag r s).msg.badRun = s.msg.badRun := rfl
@[simp] theorem appendReply_msg_goodRun (code tag : Byte) (r : MsgResult) (s : State) :
    (appendReply code tag r s).msg.goodRun = s.msg.goodRun := rfl
@[simp] theorem appendReply_msg_outage (code tag : Byte) (r : MsgResult) (s : State) :
    (appendReply code tag r s).msg.outage = s.msg.outage := rfl
@[simp] theorem appendReply_msg_verdict (code tag : Byte) (r : MsgResult) (s : State) :
    (appendReply code tag r s).msg.verdict = s.msg.verdict := rfl
@[simp] theorem appendReply_msg_audio (code tag : Byte) (r : MsgResult) (s : State) :
    (appendReply code tag r s).msg.audio = s.msg.audio := rfl
@[simp] theorem appendReply_msg_assembler (code tag : Byte) (r : MsgResult) (s : State) :
    (appendReply code tag r s).msg.assembler = s.msg.assembler := rfl
@[simp] theorem appendReply_msg_resetPending (code tag : Byte) (r : MsgResult) (s : State) :
    (appendReply code tag r s).msg.resetPending = s.msg.resetPending := rfl
@[simp] theorem appendReply_msg_resetDue (code tag : Byte) (r : MsgResult) (s : State) :
    (appendReply code tag r s).msg.resetDue = s.msg.resetDue := rfl
@[simp] theorem appendReply_msg_linkErrors (code tag : Byte) (r : MsgResult) (s : State) :
    (appendReply code tag r s).msg.linkErrors = s.msg.linkErrors := rfl
@[simp] theorem appendReply_msg_framingErrors (code tag : Byte) (r : MsgResult) (s : State) :
    (appendReply code tag r s).msg.framingErrors = s.msg.framingErrors := rfl
@[simp] theorem appendReply_msg_discarded (code tag : Byte) (r : MsgResult) (s : State) :
    (appendReply code tag r s).msg.discarded = s.msg.discarded := rfl
@[simp] theorem appendReply_msg_upstream (code tag : Byte) (r : MsgResult) (s : State) :
    (appendReply code tag r s).msg.upstream = s.msg.upstream := rfl
@[simp] theorem appendReply_msg_notices (code tag : Byte) (r : MsgResult) (s : State) :
    (appendReply code tag r s).msg.notices = s.msg.notices := rfl
@[simp] theorem appendReply_msg_noticeDrops (code tag : Byte) (r : MsgResult) (s : State) :
    (appendReply code tag r s).msg.noticeDrops = s.msg.noticeDrops := rfl

/-! ### enqueue within the Event Queue -/

/-- A record is appended at the tail with age 0. -/
@[simp] theorem enqueue_records (r : EventRecord) (s : State) :
    (enqueue r s).queue.records = s.queue.records ++ [{ r with age := 0 }] := rfl

@[simp] theorem enqueue_queue_drops (r : EventRecord) (s : State) : (enqueue r s).queue.drops = s.queue.drops := rfl
@[simp] theorem enqueue_queue_refusals (r : EventRecord) (s : State) : (enqueue r s).queue.refusals = s.queue.refusals := rfl
@[simp] theorem enqueue_queue_overrun (r : EventRecord) (s : State) : (enqueue r s).queue.overrun = s.queue.overrun := rfl
@[simp] theorem enqueue_queue_slots (r : EventRecord) (s : State) : (enqueue r s).queue.slots = s.queue.slots := rfl

/-! ### Key and pedal records -/

/-- The record just stored is the one read. -/
@[simp] theorem key_setKey_self (s : State) (k : KeyIdx) (r : KeyRecord) : (s.setKey k r).key k = r := by
  simp [State.key, State.setKey]

/-- Storing one key's record leaves every other key's as it was. -/
@[simp] theorem key_setKey_ne (s : State) (k j : KeyIdx) (r : KeyRecord) (h : j ≠ k) : (s.setKey k r).key j = s.key j := by
  have : k.val ≠ j.val := fun e => h (Fin.ext e.symm)
  simp [State.key, State.setKey, Vector.getElem_set_ne, this]

/-- The record just stored is the one read. -/
@[simp] theorem pedal_setPedal_self (s : State) (p : PedalIdx) (r : PedalRecord) : (s.setPedal p r).pedal p = r := by
  simp [State.pedal, State.setPedal]

/-- Storing one pedal's record leaves every other pedal's as it was. -/
@[simp] theorem pedal_setPedal_ne (s : State) (p q : PedalIdx) (r : PedalRecord) (h : q ≠ p) :
    (s.setPedal p r).pedal q = s.pedal q := by
  have : p.val ≠ q.val := fun e => h (Fin.ext e.symm)
  simp [State.pedal, State.setPedal, Vector.getElem_set_ne, this]

/-- A key record stored leaves the curves and settings as they were. -/
@[simp] theorem setKey_curves (s : State) (k : KeyIdx) (r : KeyRecord) :
    (s.setKey k r).tracker.curves = s.tracker.curves := rfl

@[simp] theorem setKey_track (s : State) (k : KeyIdx) (r : KeyRecord) :
    (s.setKey k r).tracker.track = s.tracker.track := rfl

/-- Recomputing the sets changes no key record. -/
@[simp] theorem recomputeSets_key (s : State) (k : KeyIdx) : (recomputeSets s).key k = s.key k := rfl

end Sys2Proof.Machine
end

