-- ==== Sys2Proof/Laws/Memory.lean ====
section
/-! SUPPORT. Event memory: what a stored slot reads back, that every memory operation keeps the canonical form of R114's slots,
and that it does. -/

namespace Sys2Proof.Machine

/-! ## The canonical form -/

/-- The head of a canonical list is not blank. -/
theorem slotsWf_head {i : Nat} {r : TakeRecord} {m : Slots} (h : slotsWf ((i, r) :: m) = true) : r ≠ blankRecord := by
  cases m with
  | nil => simpa [slotsWf] using h
  | cons e m => simp [slotsWf] at h; exact h.1.1

/-- The tail of a canonical list is canonical. -/
theorem slotsWf_tail {e : Nat × TakeRecord} {m : Slots} (h : slotsWf (e :: m) = true) : slotsWf m = true := by
  cases m with
  | nil => rfl
  | cons f m => obtain ⟨i, r⟩ := e; obtain ⟨j, q⟩ := f; simp [slotsWf] at h; exact h.2

/-- A slot below every listed one reads as the pin-reset record. -/
theorem slotAt_below {i j : Nat} {r : TakeRecord} {m : Slots} (h : slotsWf ((j, r) :: m) = true) (hi : i ≤ j) :
    slotAt m i = blankRecord := by
  induction m generalizing j r with
  | nil => rfl
  | cons e m ih =>
    obtain ⟨k, q⟩ := e
    have hjk : j < k := by simp [slotsWf] at h; exact h.1.2
    have hne : i ≠ k := by omega
    simp only [slotAt, if_neg hne]
    exact ih (slotsWf_tail h) (by omega)

/-- What may stand in front of a canonical list. -/
theorem slotsWf_cons {i : Nat} {r : TakeRecord} {m : Slots} (hr : r ≠ blankRecord) (hm : slotsWf m = true)
    (hi : ∀ e ∈ m, i < e.1) : slotsWf ((i, r) :: m) = true := by
  cases m with
  | nil => simp [slotsWf, hr]
  | cons e m => obtain ⟨j, q⟩ := e; simp [slotsWf, hr, hm]; exact hi (j, q) (by simp)

/-- Every slot listed after the head lies above it. -/
theorem slotsWf_rising {i : Nat} {r : TakeRecord} {m : Slots} (h : slotsWf ((i, r) :: m) = true) :
    ∀ e ∈ m, i < e.1 := by
  induction m generalizing i r with
  | nil => simp
  | cons f m ih =>
    obtain ⟨j, q⟩ := f
    have hij : i < j := by simp [slotsWf] at h; exact h.1.2
    intro e he
    rcases List.mem_cons.1 he with rfl | he
    · exact hij
    · exact lt_trans hij (ih (slotsWf_tail h) e he)

/-- What a store may list: the slots listed before, and the stored one. -/
theorem mem_slotPut {m : Slots} {i : Nat} {r : TakeRecord} {e : Nat × TakeRecord} (h : e ∈ slotPut m i r) :
    e ∈ m ∨ e.1 = i := by
  induction m with
  | nil =>
    unfold slotPut at h
    split at h
    · simp at h
    · exact .inr (by simp at h; simp [h])
  | cons f m ih =>
    obtain ⟨j, q⟩ := f
    unfold slotPut at h
    split at h
    · split at h
      · exact .inl h
      · rcases List.mem_cons.1 h with rfl | h
        · exact .inr rfl
        · exact .inl h
    · split at h
      · split at h
        · exact .inl (List.mem_cons_of_mem _ h)
        · rcases List.mem_cons.1 h with rfl | h
          · exact .inr rfl
          · exact .inl (List.mem_cons_of_mem _ h)
      · rcases List.mem_cons.1 h with rfl | h
        · exact .inl (by simp)
        · rcases ih h with h | h
          · exact .inl (List.mem_cons_of_mem _ h)
          · exact .inr h

/-- A store keeps the canonical form. -/
theorem slotPut_wf {m : Slots} (i : Nat) (r : TakeRecord) (h : slotsWf m = true) : slotsWf (slotPut m i r) = true := by
  induction m with
  | nil =>
    unfold slotPut
    split
    · rfl
    · rename_i hr; simp [slotsWf, hr]
  | cons f m ih =>
    obtain ⟨j, q⟩ := f
    unfold slotPut
    split
    · rename_i hij
      split
      · exact h
      · rename_i hr
        refine slotsWf_cons hr h (fun e he => ?_)
        rcases List.mem_cons.1 he with rfl | he
        · exact hij
        · exact lt_trans hij (slotsWf_rising h e he)
    · rename_i hij
      split
      · rename_i he
        subst he
        split
        · exact slotsWf_tail h
        · rename_i hr; exact slotsWf_cons hr (slotsWf_tail h) (slotsWf_rising h)
      · rename_i hne
        refine slotsWf_cons (slotsWf_head h) (ih (slotsWf_tail h)) (fun e he => ?_)
        rcases mem_slotPut he with he | he
        · exact slotsWf_rising h e he
        · omega

/-! ## Reading back -/

/-- A slot stored reads back as stored. -/
theorem slotAt_slotPut_self {m : Slots} (i : Nat) (r : TakeRecord) (h : slotsWf m = true) :
    slotAt (slotPut m i r) i = r := by
  induction m with
  | nil =>
    unfold slotPut
    split
    · rename_i hr; simp [slotAt, hr]
    · simp [slotAt]
  | cons f m ih =>
    obtain ⟨j, q⟩ := f
    unfold slotPut
    split
    · rename_i hij
      split
      · rename_i hr
        have : i ≠ j := by omega
        simp only [slotAt, if_neg this, hr]
        exact slotAt_below h (by omega)
      · simp [slotAt]
    · split
      · rename_i he
        subst he
        split
        · rename_i hr; rw [hr]; exact slotAt_below h (le_refl _)
        · simp [slotAt]
      · rename_i hne
        simp only [slotAt, if_neg hne]
        exact ih (slotsWf_tail h)

/-- A store leaves every other slot as it was. -/
theorem slotAt_slotPut_ne {m : Slots} (i k : Nat) (r : TakeRecord) (hk : k ≠ i) :
    slotAt (slotPut m i r) k = slotAt m k := by
  induction m with
  | nil =>
    unfold slotPut
    split
    · rfl
    · simp [slotAt, hk]
  | cons f m ih =>
    obtain ⟨j, q⟩ := f
    unfold slotPut
    split
    · split
      · rfl
      · simp [slotAt, hk]
    · split
      · rename_i he
        subst he
        split
        · simp [slotAt, hk]
        · simp [slotAt, hk]
      · by_cases hkj : k = j
        · simp [slotAt, hkj]
        · simp only [slotAt, if_neg hkj]; exact ih

/-- Records stored in consecutive slots keep the canonical form. -/
theorem storeRecords_wf {rs : List TakeRecord} {i : Nat} {m : Slots} (h : slotsWf m = true) :
    slotsWf (storeRecords rs i m) = true := by
  induction rs generalizing i m with
  | nil => exact h
  | cons r rs ih => exact ih (slotPut_wf i r h)

/-! ## Areas and roles -/

/-- The form of both areas is that of the take and the capture. -/
theorem memory_wf_iff (m : TakeMemory) :
    Memory.wf m = true ↔ slotsWf m.take.slots = true ∧ slotsWf m.capture.slots = true := by
  unfold Memory.wf TakeMemory.take TakeMemory.capture
  cases m.takeIsArea0 <;> simp [and_comm]

@[simp] theorem take_setTake (m : TakeMemory) (a : Area) : (m.setTake a).take = a := by
  obtain ⟨a0, a1, t⟩ := m; cases t <;> rfl

@[simp] theorem capture_setTake (m : TakeMemory) (a : Area) : (m.setTake a).capture = m.capture := by
  obtain ⟨a0, a1, t⟩ := m; cases t <;> rfl

@[simp] theorem capture_setCapture (m : TakeMemory) (a : Area) : (m.setCapture a).capture = a := by
  obtain ⟨a0, a1, t⟩ := m; cases t <;> rfl

@[simp] theorem take_setCapture (m : TakeMemory) (a : Area) : (m.setCapture a).take = m.take := by
  obtain ⟨a0, a1, t⟩ := m; cases t <;> rfl

@[simp] theorem roles_setTake (m : TakeMemory) (a : Area) : (m.setTake a).takeIsArea0 = m.takeIsArea0 := by
  unfold TakeMemory.setTake; split <;> rfl

@[simp] theorem roles_setCapture (m : TakeMemory) (a : Area) : (m.setCapture a).takeIsArea0 = m.takeIsArea0 := by
  unfold TakeMemory.setCapture; split <;> rfl

/-- A TAKE area in canonical form keeps memory's form. -/
theorem setTake_wf {m : TakeMemory} {a : Area} (h : Memory.wf m = true) (ha : slotsWf a.slots = true) :
    Memory.wf (m.setTake a) = true := by
  rw [memory_wf_iff] at h ⊢; simp [ha, h.2]

/-- A CAPTURE area in canonical form keeps memory's form. -/
theorem setCapture_wf {m : TakeMemory} {a : Area} (h : Memory.wf m = true) (ha : slotsWf a.slots = true) :
    Memory.wf (m.setCapture a) = true := by
  rw [memory_wf_iff] at h ⊢; simp [ha, h.1]

/-! ## The memory operations keep the form -/

theorem appendTake_wf {r : TakeRecord} {s : State} (h : Memory.wf s.memory = true) :
    Memory.wf (appendTake r s).memory = true :=
  setCapture_wf h (slotPut_wf _ _ ((memory_wf_iff _).1 h).2)

theorem appendAll_wf {rs : List TakeRecord} {s : State} (h : Memory.wf s.memory = true) :
    Memory.wf (appendAll rs s).memory = true := by
  induction rs generalizing s with
  | nil => exact h
  | cons r rs ih => exact ih (appendTake_wf h)

theorem appendSpacer_wf {s : State} (h : Memory.wf s.memory = true) : Memory.wf (appendSpacer s).memory = true :=
  appendTake_wf h

theorem appendSpacers_wf {n : Nat} {s : State} (h : Memory.wf s.memory = true) :
    Memory.wf (appendSpacers n s).memory = true := by
  induction n generalizing s with
  | zero => exact h
  | succ n ih => exact ih (appendSpacer_wf h)

theorem closingSpacers_wf {s : State} (h : Memory.wf s.memory = true) : Memory.wf (closingSpacers s).memory = true := by
  unfold closingSpacers
  split
  · exact appendSpacers_wf h
  · exact h

theorem closeCapture_wf {s : State} (h : Memory.wf s.memory = true) : Memory.wf (closeCapture s).memory = true :=
  appendAll_wf (closingSpacers_wf h)

theorem closeByReserve_wf {kind : TakeKind} {s : State} (h : Memory.wf s.memory = true) :
    Memory.wf (closeByReserve kind s).memory = true := by
  unfold closeByReserve
  simpa using closeCapture_wf h

theorem startCapture_wf {s : State} (h : Memory.wf s.memory = true) : Memory.wf (startCapture s).memory = true :=
  setCapture_wf h ((memory_wf_iff _).1 h).2

theorem captureConsider_wf {ev : EventRecord} {s : State} (h : Memory.wf s.memory = true) :
    Memory.wf (captureConsider ev s).memory = true := by
  unfold captureConsider
  split
  · exact h
  · exact h
  · split
    · exact appendAll_wf (appendSpacers_wf h)
    · exact closeByReserve_wf h

theorem captureObserve_wf {ev : EventRecord} {s : State} (h : Memory.wf s.memory = true) :
    Memory.wf (captureObserve ev s).memory = true := by
  unfold captureObserve
  split
  · exact captureConsider_wf h
  · split
    · exact captureConsider_wf (startCapture_wf h)
    · exact h
  · exact h

theorem tickSpacers_wf {n : Nat} {s : State} (h : Memory.wf s.memory = true) :
    Memory.wf (tickSpacers n s).memory = true := by
  induction n generalizing s with
  | zero => exact h
  | succ n ih =>
    unfold tickSpacers
    split
    · exact ih (appendSpacer_wf h)
    · exact closeByReserve_wf h

theorem softResetMemory_wf {m : TakeMemory} (h : Memory.wf m = true) : Memory.wf (softResetMemory m) = true := by
  unfold softResetMemory
  split <;> exact h

theorem promoteMemory_wf {m : TakeMemory} (h : Memory.wf m = true) : Memory.wf (promoteMemory m) = true := by
  have h' : Memory.wf { m with takeIsArea0 := !m.takeIsArea0 } = true := h
  exact setCapture_wf h' ((memory_wf_iff _).1 h').2

theorem setTakeHeader_wf {m : TakeMemory} {hd : AreaHeader} (h : Memory.wf m = true) :
    Memory.wf (m.setTakeHeader hd) = true :=
  setTake_wf h ((memory_wf_iff _).1 h).1

/-- Event memory after a pin reset is in canonical form. -/
theorem pinResetMemory_wf : Memory.wf pinResetMemory = true := rfl

/-- State.reset's event memory is in canonical form. -/
theorem reset_memory_wf : Memory.wf State.reset.memory = true := rfl

end Sys2Proof.Machine
end

