-- ==== Sys2Proof/Laws/Ops.lean ====
section
/-! SUPPORT. One lemma per shared operation: what it can do, so that proofs cite it and do not unfold it. -/

namespace Sys2Proof.Machine

/-! ## Arithmetic -/

theorem clampNat_bounds {lo hi n : Nat} (h : lo ≤ hi) : lo ≤ clampNat lo hi n ∧ clampNat lo hi n ≤ hi := by
  unfold clampNat; split_ifs <;> omega

/-- A value within the range is left as it is. -/
theorem clampNat_inside {lo hi n : Nat} (h1 : lo ≤ n) (h2 : n ≤ hi) : clampNat lo hi n = n := by
  unfold clampNat; split_ifs <;> omega

theorem clampInt_bounds {lo hi n : Int} (h : lo ≤ hi) : lo ≤ clampInt lo hi n ∧ clampInt lo hi n ≤ hi := by
  unfold clampInt; split_ifs <;> omega

/-- A value within the range is left as it is. -/
theorem clampInt_inside {lo hi n : Int} (h1 : lo ≤ n) (h2 : n ≤ hi) : clampInt lo hi n = n := by
  unfold clampInt; split_ifs <;> omega

theorem satInc_le (max n : Nat) : satInc max n ≤ max := Nat.min_le_left _ _

/-- A slew moves toward its target by at most the step, and reaches a target within the step. -/
theorem slew_spec (step target from_ : Nat) :
    distance (slew step target from_) from_ ≤ step ∧ (distance target from_ ≤ step → slew step target from_ = target) := by
  unfold slew distance; split_ifs <;> constructor <;> intros <;> omega

/-- A slew stays within a bound that its target and its start keep. -/
theorem slew_le {step target from_ b : Nat} (ht : target ≤ b) (hf : from_ ≤ b) : slew step target from_ ≤ b := by
  unfold slew; split_ifs <;> omega

/-- A normalised depth lies within 0..1023. -/
theorem normalise_le (rest bottom raw : Nat) : normalise rest bottom raw ≤ 1023 := by
  have := clampInt_bounds (lo := 0) (hi := 1023)
    (n := ((((raw : Int) - rest) * 1024).tdiv ((bottom : Int) - rest))) (by omega)
  unfold normalise; omega

/-- A velocity lies within 1..127. -/
theorem velocityOf_range (curves : Vector Curve 4) (cal : KeyCal) (d : Nat) :
    1 ≤ velocityOf curves cal d ∧ velocityOf curves cal d ≤ 127 := by
  have := clampInt_bounds (lo := 1) (hi := 127)
    (n := (curveEntry curves cal.curve (travelCode d) : Int) + cal.trim) (by omega)
  unfold velocityOf; omega

theorem leBytes_length (w n : Nat) : (leBytes w n).length = w := by
  induction w generalizing n with
  | zero => rfl
  | succ w ih => simp [leBytes, ih]

/-- A limited sample lies within 24 bits. -/
theorem limit24_range (h : Int) : -8388608 ≤ limit24 h ∧ limit24 h ≤ 8388607 := clampInt_bounds (by omega)

/-- A fade step keeps the balance between where it stands and the fade's target. -/
theorem fadeStep_between (m : Mixer) (f : Fade) (h : m.fade = some f) :
    min m.bal f.target ≤ (fadeStep m).bal ∧ (fadeStep m).bal ≤ max m.bal f.target := by
  have key : ∀ d : Int, ∀ r : Nat, (0 ≤ d → 0 ≤ d.tdiv r ∧ d.tdiv r ≤ d) ∧ (d ≤ 0 → d ≤ d.tdiv r ∧ d.tdiv r ≤ 0) := by
    intro d r
    constructor
    · intro hd
      obtain ⟨n, rfl⟩ := Int.eq_ofNat_of_zero_le hd
      constructor
      · exact Int.tdiv_nonneg hd (Int.natCast_nonneg r)
      · rw [← Int.ofNat_tdiv]; exact_mod_cast Nat.div_le_self n r
    · intro hd
      obtain ⟨n, hn⟩ := Int.eq_ofNat_of_zero_le (a := -d) (by omega)
      have hd' : d = -(n : Int) := by omega
      subst hd'
      rw [Int.neg_tdiv, ← Int.ofNat_tdiv]
      have : n / r ≤ n := Nat.div_le_self n r
      generalize n / r = q at this ⊢
      omega
  have hk := key ((f.target : Int) - m.bal) f.remaining
  simp only [fadeStep, h]
  rcases le_total m.bal f.target with hle | hle
  · have := hk.1 (by omega); omega
  · have := hk.2 (by omega); omega

/-! ## Notices -/

/-- A notice is stored at the tail while fewer than 10 are held. -/
theorem raiseNotice_room {kind : NoticeKind} {data : List Byte} {s : State} (h : s.msg.notices.length < 10) :
    raiseNotice kind data s = { s with msg := { s.msg with
      notices := s.msg.notices ++ [{ kind := kind, frame := s.clock.frame, data := data }] } } := by
  simp [raiseNotice, h]

/-- A notice that finds no room is counted. -/
theorem raiseNotice_full {kind : NoticeKind} {data : List Byte} {s : State} (h : 10 ≤ s.msg.notices.length) :
    raiseNotice kind data s = { s with msg := { s.msg with noticeDrops := satInc 255 s.msg.noticeDrops } } := by
  simp [raiseNotice, Nat.not_lt.2 h]

/-- Raising a notice never holds more than 10. -/
theorem raiseNotice_length {kind : NoticeKind} {data : List Byte} {s : State} (h : s.msg.notices.length ≤ 10) :
    (raiseNotice kind data s).msg.notices.length ≤ 10 := by
  unfold raiseNotice; split
  · simp; omega
  · exact h

/-! ## Messages -/

theorem windowOpen_iff (s : State) : windowOpen s = true ↔ s.msg.resetPending = false ∧ s.msg.replies.length < 4 := by
  simp [windowOpen]

/-- A message that completes in an open window is executed by its owner and answered by one reply. -/
theorem completeMessage_open {code tag : Byte} {op : MsgOp} {s : State} (h : windowOpen s = true) :
    completeMessage code tag op s = appendReply code tag (op s).2 (op s).1 := by
  obtain ⟨h1, h2⟩ := (windowOpen_iff s).1 h
  simp [completeMessage, h1, h2]

/-- A message that completes while a soft reset is pending is discarded. -/
theorem completeMessage_pending {code tag : Byte} {op : MsgOp} {s : State} (h : s.msg.resetPending = true) :
    completeMessage code tag op s = s := by simp [completeMessage, h]

/-- A message that finds the reply queue full is discarded and counted. -/
theorem completeMessage_full {code tag : Byte} {op : MsgOp} {s : State} (h : s.msg.resetPending = false)
    (hr : 4 ≤ s.msg.replies.length) : completeMessage code tag op s =
      { s with msg := { s.msg with discarded := satInc 65535 s.msg.discarded } } := by
  simp [completeMessage, h, hr]

/-! ## Event Queue -/

/-- A playback record is admitted at an occupancy of 63 or less. -/
theorem presentPlayback_admitted {r : EventRecord} {s : State} (h : s.queue.records.length ≤ 63) :
    presentPlayback r s = (enqueue (limitValue r) s, true) := by simp [presentPlayback, h]

/-- A playback record is refused at an occupancy of 64 or more, with nothing changed. -/
theorem presentPlayback_refused {r : EventRecord} {s : State} (h : 64 ≤ s.queue.records.length) :
    presentPlayback r s = (s, false) := by simp [presentPlayback]; omega

/-- A live record is admitted at an occupancy of 95 or less, and observed. -/
theorem presentLive_admitted {r : EventRecord} {s : State} (h : s.queue.records.length ≤ 95) :
    presentLive r s = (observeLive r (enqueue r s), true) := by simp [presentLive, h]

/-- A live record is refused at an occupancy of 96. -/
theorem presentLive_refused {r : EventRecord} {s : State} (h : 96 ≤ s.queue.records.length) :
    presentLive r s = (refuseLive r s, false) := by simp [presentLive]; omega

@[simp] theorem limitValue_kind (r : EventRecord) : (limitValue r).kind = r.kind := by
  unfold limitValue; split <;> simp_all

@[simp] theorem limitValue_source (r : EventRecord) : (limitValue r).source = r.source := by
  unfold limitValue; split <;> rfl

/-- The playback count after an admission: one more for a playback record. -/
theorem playbackCount_enqueue (r : EventRecord) (s : State) :
    (enqueue r s).queue.playbackCount = s.queue.playbackCount + (if r.source = .playback then 1 else 0) := by
  simp only [EventQueue.playbackCount, enqueue_records, List.filter_append, List.length_append]
  congr 1
  by_cases h : r.source = .playback <;> simp [h]

theorem playbackCount_le (q : EventQueue) : q.playbackCount ≤ q.records.length := List.length_filter_le _ _

/-- A drain takes up to six records into the slots and leaves the rest. -/
theorem drainQueue_lengths (q : EventQueue) :
    (drainQueue q).slots.length = min 6 q.records.length ∧ (drainQueue q).records.length = q.records.length - 6 := by
  simp [drainQueue]

/-! ## A message among the samples of a scan frame -/

@[simp] theorem midStep_none (n : Nat) (s : State) : midStep none n s = s := rfl

/-- The message is executed at its place. -/
@[simp] theorem midStep_here (m : MidMessage) (s : State) :
    midStep (some m) m.before.val s = dispatch m.code m.tag m.body s := by simp [midStep]

/-- Nothing of the message is left after its place. -/
theorem midStep_after {m : MidMessage} {n : Nat} (h : m.before.val < n) (s : State) : midStep (some m) n s = s := by
  simp [midStep, Nat.ne_of_gt h, Nat.not_lt_of_gt h]

/-- Before its place only a CURVE_WRITE does anything. -/
theorem midStep_before {m : MidMessage} {n : Nat} (h : n < m.before.val) (hc : m.code ≠ 0x13) (s : State) :
    midStep (some m) n s = s := by
  simp only [midStep, if_neg (Nat.ne_of_lt h), if_pos h, midCurve, hc, false_and, if_false]

/-! ## The rail's gate -/

/-- A rail replaced by the one operation that does so keeps its gate and the Mixer's in agreement. -/
theorem setRail_gate (s : State) (r : Rail) :
    (s.setRail r).rail.gate = gateOf r.state r.origin r.monitor ∧ (s.setRail r).mixer.gate = (s.setRail r).rail.gate :=
  ⟨rfl, rfl⟩

/-! ## The rail's tick work in its two pieces -/

theorem evaluate_raiseNotice (k : NoticeKind) (d : List Byte) (s : State) :
    evaluate (raiseNotice k d s) = raiseNotice k d (evaluate s) := by
  unfold raiseNotice
  have h : (evaluate s).msg = s.msg := rfl
  rw [h]
  split <;> rfl

theorem evaluate_resetDriver (s : State) : evaluate (resetDriver s) = resetDriver (evaluate s) := by
  unfold resetDriver
  have h : (evaluate s).rail.state = s.rail.state := rfl
  rw [h]
  split <;> rfl

theorem evaluate_enterWaiting (o : RailOrigin) (e : RailEnd) (s : State) :
    evaluate (enterWaiting o e s) = enterWaiting o e (evaluate s) := rfl

theorem evaluate_displace (s : State) : evaluate (displace s) = displace (evaluate s) :=
  (evaluate_raiseNotice _ _ _).trans rfl

theorem evaluate_arrive (e : RailEnd) (s : State) : evaluate (arrive e s) = arrive e (evaluate s) := by
  let u (s : State) : State := railDone 0 e.state s.rail.pauseCount (s.rail.startLimit - s.rail.motion) s.rail.pause
    (s.moveRail { s.rail with state := e.state, origin := none, target := none, next := none })
  have hu : evaluate (u s) = u (evaluate s) := (evaluate_raiseNotice _ _ _).trans rfl
  have key (s : State) : arrive e s = match s.rail.next with | none => u s | some n => enterWaiting e.origin n (u s) := rfl
  rw [key, key, show (evaluate s).rail.next = s.rail.next from rfl]
  split
  · exact hu
  · rw [evaluate_enterWaiting, hu]

/-- The rail's tick work in its two pieces is the rail's tick work: what comes before the evaluation does not read it. -/
theorem railEarly_evaluate {sw : Switches} {s : State} {ev : RailEvent} (h : railEarlyEvent sw s = some ev) :
    railTick sw s = if ev = .conflict then railEarly ev sw s else evaluate (railEarly ev sw s) := by
  have hev : railEvent (latch sw s) = ev ∧ (ev = .conflict ∨ ev = .displaced ∨ ev = .arrival) := by
    unfold railEarlyEvent at h
    split at h
    · injection h with h; subst h; exact ⟨‹_›, .inl rfl⟩
    · injection h with h; subst h; exact ⟨‹_›, .inr (.inl rfl)⟩
    · split at h
      · exact absurd h (by simp)
      · injection h with h; subst h; exact ⟨‹_›, .inr (.inr rfl)⟩
    · exact absurd h (by simp)
  obtain ⟨he, hc⟩ := hev
  have heval : railEvent (evaluate (latch sw s)) = railEvent (latch sw s) := rfl
  unfold railTick railPrepare railEarly
  rcases hc with rfl | rfl | rfl
  · simp only [he, if_true]
  · simp only [he, heval, reduceCtorEq, if_false]
    rw [evaluate_resetDriver]; exact congrArg resetDriver (evaluate_displace _).symm
  · simp only [he, heval, reduceCtorEq, if_false]
    rw [evaluate_resetDriver]; exact congrArg resetDriver (evaluate_arrive _ _).symm

/-! ## Player -/

/-- A search that ends does so at the record count, at an END, or at a record at or beyond the target. -/
theorem searchFrom_spec {a : Area} {target n i j : Nat} (h : searchFrom a target n i = some j) :
    i ≤ j ∧ (a.header.count ≤ j ∨ (slotAt a.slots j).kind = .endMark ∨ target ≤ positionOf a.slots j) := by
  induction n generalizing i with
  | zero =>
    unfold searchFrom at h
    split at h
    · injection h with h; subst h; exact ⟨le_refl _, .inl ‹_›⟩
    · exact absurd h (by simp)
  | succ n ih =>
    unfold searchFrom at h
    split at h
    · injection h with h; subst h; exact ⟨le_refl _, .inl ‹_›⟩
    · simp only at h
      split at h
      · injection h with h; subst h; exact ⟨le_refl _, .inr ‹_›⟩
      · obtain ⟨h1, h2⟩ := ih h; exact ⟨by omega, h2⟩

/-- What stands in a set after a pair is put in: the pair, and pairs that stood there. -/
theorem mem_insertPair {q x : PlayPair} {l : List PlayPair} (h : x ∈ insertPair q l) : x = q ∨ x ∈ l := by
  induction l with
  | nil => simpa [insertPair] using h
  | cons p l ih =>
    unfold insertPair at h
    split_ifs at h
    · simpa using h
    · simp only [List.mem_cons] at h ⊢; tauto
    · simp only [List.mem_cons] at h ⊢; tauto

/-- Putting a pair in keeps a set ascending. -/
theorem insertPair_ascending (q : PlayPair) {l : List PlayPair} (h : pairsAscending l) : pairsAscending (insertPair q l) := by
  unfold pairsAscending at *
  induction l with
  | nil => simp [insertPair]
  | cons p l ih =>
    obtain ⟨hp, hl⟩ := List.pairwise_cons.1 h
    unfold insertPair
    split_ifs with hlt heq
    · refine List.pairwise_cons.2 ⟨fun x hx => ?_, h⟩
      rcases List.mem_cons.1 hx with rfl | hx
      · exact hlt
      · have := hp x hx; unfold pairBefore at *; omega
    · exact List.pairwise_cons.2 ⟨fun x hx => by have := hp x hx; unfold pairBefore at *; omega, hl⟩
    · refine List.pairwise_cons.2 ⟨fun x hx => ?_, ih hl⟩
      rcases mem_insertPair hx with rfl | hx
      · unfold pairBefore; omega
      · exact hp x hx

/-- Taking a pair out keeps a set ascending. -/
theorem dropPair_ascending (part key : Nat) {l : List PlayPair} (h : pairsAscending l) : pairsAscending (dropPair l part key) :=
  List.Pairwise.filter _ h

end Sys2Proof.Machine
end

