-- ==== Sys2Proof/Tests/Slice0.lean ====
section
/-! SUPPORT. Tests: the ill-formed commands that WellFormed refuses, the worked examples of the spec, and for every statement
with hypotheses a concrete state and operands that meet them, clause by clause. -/

namespace Sys2Proof.Tests

set_option Elab.async false

open Sys2Proof Sys2Proof.Machine Sys2Proof.Claims

/-! ## Small states -/

/-- The machine after reset, in frame 1024 of its clock. -/
def s0 : State := { State.reset with clock := { frame := 1024, started := true } }

/-- The state with the scan receiver changed. -/
def scanned (f : ScanReceiver → ScanReceiver) : State := { s0 with scan := f s0.scan }

/-- The state with the record of key 40 changed. -/
def keyed (f : KeyRecord → KeyRecord) : State := s0.setKey 40 (f (s0.key 40))

/-- The state with the record of pedal 0 changed. -/
def pedalled (f : PedalRecord → PedalRecord) : State := s0.setPedal 0 (f (s0.pedal 0))

/-- The state with the rail changed. -/
def railed (f : Rail → Rail) : State := { s0 with rail := f s0.rail }

/-- The state with the scan receiver locked, so that the interlock is satisfied. -/
def safe (s : State) : State := { s with scan := { s.scan with lock := .locked } }

/-- The state with the mixer changed. -/
def mixed (f : Mixer → Mixer) : State := { s0 with mixer := f s0.mixer }

/-- The state with the player changed. -/
def playing (f : Player → Player) : State := { s0 with player := f s0.player }

/-- The state with the recorder changed. -/
def recording (f : Recorder → Recorder) : State := { s0 with recorder := f s0.recorder }

/-- The state with the message unit changed. -/
def linked (f : MessageUnit → MessageUnit) : State := { s0 with msg := f s0.msg }

/-- The state with `n` records in the Event Queue. -/
def crowded (n : Nat) (s : State) : State := { s with queue := { s.queue with records := List.replicate n default } }

/-- The state with a take in area 0. -/
def taking (slots : Slots) (count : Nat) (s : State) : State :=
  { s with memory := { s.memory with area0 :=
      { slots := slots, header := { count := count, barLen := 16000, beats := 4 } } } }

/-- A take record. -/
def rec_ (delta : Nat) (kind : TakeKind) (part key value : Nat) : TakeRecord :=
  { delta := delta, kind := kind, part := part, key := key, value := value, sub := 0 }

/-- A scan frame for a frame number, with its CRC: the first word brings the CRC to 0, where the zeros after it keep it. -/
def scanWords (frame : FrameNo) : List ScanWord :=
  [0xFFFF#16] ++ List.replicate 90 0#16 ++ [frame.setWidth 16] ++ [crcWord 0#16 (frame.setWidth 16)]

theorem foldl_crcWord_zeros (n : Nat) : (List.replicate n 0#16).foldl crcWord 0#16 = 0#16 := by
  have h : crcWord 0#16 0#16 = 0#16 := by decide +kernel
  induction n with
  | zero => rfl
  | succ n ih => rw [List.replicate_succ, List.foldl_cons, h, ih]

theorem scanWords_crc (frame : FrameNo) : crcOf (scanWords frame) = (scanWords frame).getD 92 0 := by
  have h : crcWord 0xFFFF#16 0xFFFF#16 = 0#16 := by decide +kernel
  have t : (scanWords frame).take 92 = [0xFFFF#16] ++ List.replicate 90 0#16 ++ [frame.setWidth 16] := rfl
  unfold crcOf
  simp only [t, List.foldl_append, List.foldl_cons, List.foldl_nil, h, foldl_crcWord_zeros]
  simp [scanWords]

/-- A well-formed downstream frame with an IDLE segment. -/
def downBytes : List Byte := [0xC3, 0x5A] ++ List.replicate 72 0 ++ [0x04] ++ List.replicate 15 0

/-- A tick with no switch asserted and nothing else brought. -/
def tick : TickInputs := { sw := ⟨false, false⟩, cue := false, storeDone := false, storeMatches := false, choices := [] }

/-! ## Ill-formed commands -/

/-- The message commands, from a body. -/
def messages : List (List Byte → Instr) :=
  [.keyCalWrite 0, .keyCalRead 0, .keyStateRead 0, .curveWrite 0, .curveRead 0, .trackConfig 0, .pedalCalWrite 0,
   .pedalCalRead 0, .calibrateRest 0, .faultListRead 0, .faultClear 0, .nvSave 0, .nvRestore 0, .railMove 0, .railConfig 0,
   .railStatus 0, .railMonitor 0, .mixMode 0, .mixBalance 0, .gainTableWrite 0, .gainTableRead 0, .volumeSet 0,
   .mixStatus 0, .takeHeaderWrite 0, .takeWrite 0, .captureRead 0, .recordStart 0, .recordStop 0, .promote 0] ++
  [.sectionWrite 0, .sectionApply 0, .playStart 0, .playStop 0, .playLocate 0, .playRate 0, .partMode 0, .followConfig 0,
   .metronome 0, .status 0, .identify 0, .reset 0]

theorem test_wellFormed_long_body :
    messages.all (fun c => wellFormed (c (List.replicate 236 0)) && !wellFormed (c (List.replicate 237 0))) = true := by
  decide +kernel

theorem test_wellFormed_fault_raw : wellFormed (.keyFault 3 4095) = true ∧ wellFormed (.keyFault 3 1) = false := by decide

theorem test_wellFormed_good_raw : wellFormed (.restStep 3 4094) = true ∧ wellFormed (.restStep 3 0) = false ∧
    wellFormed (.calKeyComplete 3 1) = true ∧ wellFormed (.calKeyComplete 3 4095) = false := by decide

theorem test_wellFormed_live_note :
    wellFormed (.recordFirstKeyStart ⟨3, 127, false, 15, 1⟩) = true ∧
    wellFormed (.recordFirstKeyStart ⟨3, 0, false, 15, 1⟩) = false ∧
    wellFormed (.recordFirstKeyStart ⟨3, 128, false, 15, 1⟩) = false ∧
    wellFormed (.recordFirstKeyStart ⟨3, 127, false, 16, 1⟩) = false ∧
    wellFormed (.recordFirstKeyStart ⟨3, 127, false, 15, 2⟩) = false := by decide

/-- A message among the keys of a scan frame has a body of at most 236 bytes, as every message has. -/
theorem test_wellFormed_message_among_keys :
    let m (n : Nat) : MidMessage := { before := 3, code := 0x13, tag := 0, body := List.replicate n 0, stored := [] }
    wellFormed (.scanFrame ⟨[], some (m 236)⟩) = true ∧ wellFormed (.scanFrame ⟨[], some (m 237)⟩) = false ∧
      wellFormed (.scanLocked ⟨[], some (m 237)⟩) = false ∧ wellFormed (.scanFrame ⟨[], none⟩) = true := by
  decide +kernel

/-! ## The commands' words: the table gives no row any bits; a message's bytes are those of 11 R180 -/

theorem test_no_word_spells_a_command : decodeTableWord 8 0x30 = none ∧ decodeTableWord 0 0 = none := by decide

/-- PLAY_LOCATE, code 0x64, tag 7, to bar 0x0102: the bar low byte first. -/
theorem test_message_bytes : messageOfBytes [0x64, 7, 2, 0, 0x02, 0x01] = some (.playLocate 7 [0x02, 0x01]) := by decide

/-! ## Worked examples of the spec -/

/-- R10. -/
theorem test_depths : normalise 3600 400 2000 = 512 ∧ normalise 620 3380 610 = 0 ∧ normalise 400 3600 3600 = 1023 := by
  decide

/-- The table of R30, and the factory value each code gives. -/
theorem test_travel_codes :
    [1, 128, 512, 513, 2560, 2561, 10752, 10753, 32000, 43520].map (fun d => (travelCode d, factoryCurveEntry (travelCode d)))
      = [(0, 127), (31, 112), (127, 65), (128, 64), (191, 33), (192, 33), (223, 17), (224, 17), (244, 7), (255, 1)] := by
  decide

/-- 02 section 2.7: the strike of key 40 at frame 1024, from depth 845 in frame 1023. -/
theorem test_ordinary_strike :
    let s := keyed (fun r => { r with
      cal := { r.cal with rest := 620, bottom := 3380, trim := 3 }, motion := .travel, depth := 845
      lastFrame := some 1023, mark := some 16002 })
    let t := keySample 40 3000 s
    (t.key 40).note = .active ∧ (t.key 40).lastVelocity = some 84 ∧ (t.key 40).flight = 320 ∧
      t.queue.records.map (fun r => (r.kind, r.key, r.value, r.offset, r.part, r.isRepeat)) =
        [(.noteOn, 40, 84, 14, 1, false)] := by
  decide +kernel

/-- 02 section 2.8: a repetition at a raw interval of 150 ticks, here from the rearm crossing at 16232. -/
theorem test_repetition :
    let s := keyed (fun r => { r with
      cal := { r.cal with rest := 620, bottom := 3380, trim := 3 }, motion := .retravel, note := .active, depth := 845
      lastFrame := some 1023, mark := some 16232 })
    let t := keySample 40 3000 s
    (t.key 40).lastVelocity = some 81 ∧ t.queue.records.map (·.isRepeat) = [true] := by
  decide +kernel

/-- R45: a rising and a falling slope, and the full depth of the factory map. -/
theorem test_pedal_values :
    pedalValue (vecOf 17 (fun i => if i = 9 then 72 else 80)) 600 = 75 ∧
    pedalValue (vecOf 17 (fun i => if i = 9 then 80 else 72)) 600 = 77 ∧
    pedalValue (vecOf 17 (fun i => if i = 9 then 80 else 72)) 601 = 77 ∧
    pedalValue factoryPedalCal.map 1023 = 126 := by
  decide +kernel

/-- R158: a fade from 32768 to 0 over 4 frames, and one from 0 to 32768 over 3. -/
theorem test_fades :
    let m := { s0.mixer with bal := 32768, fade := some { target := 0, remaining := 4 } }
    let n := { s0.mixer with bal := 0, fade := some { target := 32768, remaining := 3 } }
    [1, 2, 3, 4].map (fun i => (fadeStep^[i] m).bal) = [24576, 16384, 8192, 0] ∧
      [1, 2, 3].map (fun i => (fadeStep^[i] n).bal) = [10922, 21845, 32768] := by
  decide +kernel

/-- 09 section 9.8, the sum of the two streams and the volume; and the second case, limited. -/
theorem test_samples :
    mixSample 2000000 (-1000000) 24576 8192 20000 0 = 762939 ∧
      limit24 (mixSample 7900000 0 32768 0 32768 524288) = 8388607 ∧
      limit24 (mixSample 7900000 0 32768 0 32768 (-524288)) = 7375712 := by
  decide

/-- R163: halves round toward plus infinity. -/
theorem test_rounding : applyGain (-3) 16384 = -1 ∧ applyGain 3 16384 = 2 := by decide

/-- The selected entries of R160. -/
theorem test_factory_gains :
    [63, 62, 60, 55, 50, 40, 31, 20, 10, 1, 0].map (tableGain factoryGainTable) =
      [32768, 30057, 25290, 16423, 10665, 4497, 2068, 800, 337, 155, 0] := by
  decide +kernel

/-- 06 section 6.9, the first row: RAIL_MOVE SILENT from ACOUSTIC. -/
theorem test_rail_waits :
    let s := railed (fun r => { r with state := .acoustic })
    ∃ t, exec (.railMove 1 [1]) s = .next t ∧ t.rail.state = .waiting ∧ t.rail.clearance = 24000 ∧ t.rail.gate = .closed ∧
      t.rail.driver = .coast :=
  ⟨_, rfl, by decide +kernel⟩

/-- 06 section 6.11: BLOCKED at a pause of 801 frames with a clearance timeout of 100 ms. -/
theorem test_rail_blocked :
    let s := railed (fun r => { r with
      state := .paused, target := some .silent, next := some .acoustic, pause := 800, motion := 5000
      config := { r.config with clearTimeout := 100 } })
    ∃ t, exec (.railBlocked ⟨false, false⟩) s = .next t ∧ t.rail.reason = some .blocked ∧ t.rail.pause = 801 ∧
      t.rail.next = none ∧ t.rail.gate = .opened :=
  ⟨_, rfl, by decide +kernel⟩

/-- 07 section 7.5: a NOTE_ON that finds 16,294 records closes with 51 NOTE_OFFs, a DAMPER 0 and an END. -/
theorem test_closing_at_the_reserve :
    let s := recording (fun r => { r with
      state := .recording, pedals := true, base := some (.frames 1024), damperValue := 72
      sounding := (List.range 51).map (fun i => (i, 0)) })
    let full : State := { s with memory := { s.memory with area1 :=
      { slots := [], header := { count := 16294, barLen := 16000, beats := 4 } } } }
    let t := captureConsider { (default : EventRecord) with key := 64, value := 70 } full
    captureCount t = 16347 ∧ t.recorder.state = .idle ∧ t.msg.notices.map (·.data) = [leBytes 2 16347 ++ [51, 1]] := by
  decide +kernel

/-- 08 section 8.8: the chord gathered at slot 0 (slot 50 there): the window of 240 frames ends before the fifth record. -/
theorem test_chord :
    let slots : Slots := [(0, rec_ 10000 .noteOn 0 39 70), (1, rec_ 50 .noteOn 1 20 64), (2, rec_ 50 .noteOn 0 43 66),
      (3, rec_ 100 .noteOff 0 39 0), (4, rec_ 100 .noteOn 0 46 72)]
    let s := taking slots 5 (playing (fun p => { p with
      state := .running, follow := true, freePlay := true, pos := 2559744, parts := p.parts.set 0 { p.parts[0] with mode := .guide } }))
    let t := gatherChord s
    t.player.expected = [(0, 39), (0, 43)] ∧ t.player.gatherLimit = some 3 ∧ t.player.state = .waiting ∧
      t.player.pos = 2560000 := by
  decide +kernel

/-- 10 section 10.6, frame 503: a FIRST while ASSEMBLING is answered ERROR(FRAMING) and the new message is executed. -/
theorem test_broken_message :
    let s := linked (fun m => { m with link := .up, assembler := .assembling 1 [0x10, 8, 21, 0] })
    let t := takeSegment ([0x03, 0x32, 9] ++ leBytes 2 0 ++ List.replicate 11 0) s
    t.msg.replies.map (fun r => (r.tag, r.result == .err .framing)) = [(8, true), (9, false)] ∧
      t.msg.framingErrors = 1 ∧ t.msg.assembler = .idle := by
  decide +kernel

/-- R179: the status field of ENGAGING, RUNNING, LOCKED, capture recording, notice pending. -/
theorem test_status_field : statusField .engaging .running .locked true true = 4 + 24 + 256 + 512 + 1024 := by decide

/-! ## Witnesses: states and operands that meet the hypotheses of each statement, clause by clause -/

theorem witness_StepRunsFrontCommand :
    ({ s0 with pending := [.scanLost, .linkDown] } : State).pending = .scanLost :: [.linkDown] ∧ s0.pending = [] := by
  decide +kernel

theorem witness_SoftResetKeepsTheTake :
    (linked (fun m => { m with resetDue := true })).msg.resetDue = true ∧ s0.msg.resetDue = false := by
  decide +kernel

/-- The missing frames of a tick: the sixteenth unlocks, the fifteenth does not; the eightieth takes the link DOWN and with it a
message under assembly, the seventy-ninth does not; and verdicts that were settled. -/
theorem witness_FrameTick_missing_frames :
    let scan (bad : Nat) := (scanned (fun r => { r with verdict := some .pending, lock := .locked, badRun := bad })).scan
    let link (bad : Nat) := (linked (fun m => { m with
      verdict := some .pending, link := .up, badRun := bad, assembler := .assembling 1 [] })).msg
    (scanned (fun r => { r with verdict := some .pending, lock := .locked, badRun := 15 })).msg.resetDue = false ∧
    ((missedScan (scan 15)).lock = .unlocked ∧ (missedScan (scan 14)).lock = .locked ∧ (missedScan (scan 14)).badRun = 15) ∧
    ((missedLink (link 79)).link = .down ∧ (missedLink (link 79)).framingErrors = 1 ∧ (missedLink (link 78)).badRun = 79) ∧
    s0.scan.verdict ≠ some .pending ∧ (linked (fun m => { m with verdict := some .good })).msg.verdict ≠ some .pending := by
  decide +kernel

/-- The segment that leaves at a frame: of a reply of 40 data bytes its first, its second and its last; a notice; IDLE. -/
theorem witness_FrameTick_segments :
    let r (sent : Nat) : Reply := { code := 0x25, tag := 7, result := .ok (List.replicate 40 3), sent := sent }
    let n : Notice := { kind := .lag, frame := 1024, data := [1, 2, 3, 4, 5, 6] }
    let at_ (m : MessageUnit → MessageUnit) := (linked m).msg
    (linked (fun m => { m with replies := [r 0], notices := [n] })).msg.resetDue = false ∧ segmentsOf (r 0) = 3 ∧
    segmentSent (at_ (fun m => { m with replies := [r 0], notices := [n] })) =
      [1, 0x25, 7, 0, 40] ++ List.replicate 11 3 ∧
    segmentSent (at_ (fun m => { m with replies := [r 1] })) = 0 :: List.replicate 15 3 ∧
    (segmentSent (at_ (fun m => { m with replies := [r 2] })) = 2 :: List.replicate 14 3 ∧ repliesLeft [r 2] = []) ∧
    (segmentSent (at_ (fun m => { m with notices := [n] })) =
        0x0B :: (leBytes 1 NoticeKind.lag.code ++ [0, 4, 0, 0, 6, 1, 2, 3, 4, 5, 6]) ∧
      noticesLeft (at_ (fun m => { m with notices := [n] })) = []) ∧
    segmentSent s0.msg = [4] := by
  decide +kernel

/-- A tick that is not the reset tick; the states of its clauses: a save under way with its last frame reached or not, an ARMED
Player at the cue, a link UP with its verdict settled and one DOWN. -/
theorem witness_FrameTickRunsEveryBlocksWork :
    let saving (n : Nat) : State := { s0 with store := { s0.store with saving := true, saveFrames := n } }
    s0.msg.resetDue = false ∧ (saving 2399).msg.resetDue = false ∧ (saving 2399).store.saving = true ∧
      2399 ≤ (saving 2399).store.saveFrames ∧ ¬ 2399 ≤ (saving 2398).store.saveFrames ∧ s0.store.saving = false ∧
      (playing (fun p => { p with state := .armed })).player.state = .armed ∧ s0.msg.link = .down ∧
      (let s := linked (fun m => { m with link := .up, verdict := some .bad })
       s.msg.link = .up ∧ s.msg.verdict ≠ some .pending) ∧ s0.mixer.pendingBal = none := by
  decide +kernel

/-- A tick of a RUNNING Player with one NOTE_ON due, at which all it presents is admitted; a queue of 70, at which nothing is. -/
theorem witness_FrameTick_player :
    let s := taking [(0, rec_ 100 .noteOn 0 39 70)] 1 (playing (fun p => { p with state := .running, pos := 25500 }))
    let free := playerRun (playerFuel s) (.cue false) { s with queue := { s.queue with records := [] } }
    s.msg.resetDue = false ∧ free.queue.records.map (fun ev => ev.key) = [39] ∧ free.player.readIdx = 1 ∧
      ((crowded 60 s).queue.records.length +
        ((List.finRange 88).filter (fun k => decide ((s.key k).note = .owed))).length + 3 + 1 ≤ 64) ∧
      70 ≤ (crowded 70 s).queue.records.length ∧
      (recording (fun r => { r with state := .recording, base := some (.player 5) })).recorder.base = some (.player 5) := by
  decide +kernel

theorem witness_ScanFrameSettlesItsVerdict :
    let settled := scanned (fun r => { r with verdict := some .good })
    let open_ := scanned (fun r => { r with verdict := some .pending, goodRun := 2 })
    let held := scanned (fun r => { r with verdict := some .pending, lock := .locked, badRun := 14 })
    settled.scan.verdict = some .good ∧
    (open_.scan.verdict = some .pending ∧ (scanWords 1023).length = 93 ∧
      crcOf (scanWords 1023) = (scanWords 1023).getD 92 0 ∧ (scanWords 1023).getD 91 0 ≠ open_.clock.frame.setWidth 16) ∧
    (held.scan.verdict = some .pending ∧ ([] : List ScanWord).length ≠ 93 ∧ held.scan.lock = .locked ∧
      held.scan.badRun < 15) ∧
    (open_.scan.lock = .unlocked ∧ (scanWords 1024).length = 93 ∧ crcOf (scanWords 1024) = (scanWords 1024).getD 92 0 ∧
      (scanWords 1024).getD 91 0 = open_.clock.frame.setWidth 16 ∧ open_.scan.goodRun < 3) := by
  simp only [scanWords_crc]; decide +kernel

/-- A message after all keys, one before the sample of key 0, and a CURVE_WRITE before that of key 50 with one of its two entries
stored before that of key 40. -/
theorem witness_ScanFrame_messages :
    let m (n : Fin 89) (code : Byte) : MidMessage :=
      { before := n, code := code, tag := 0, body := [3, 255, 0, 200], stored := List.replicate 41 1 }
    ((m 88 0x15).code ≠ 0x13 ∧ (m 0 0x24).code ≠ 0x13) ∧
    (40 < (m 50 0x13).before.val ∧ (m 50 0x13).code = 0x13 ∧ (m 50 0x13).body = 3 :: 255 :: [0, 200] ∧
      windowOpen s0 = true ∧ 1 ≤ ([0, 200] : List Byte).length ∧ (List.replicate 232 (0 : Byte)).length ≤ 232 ∧
      (3 : Byte).toNat ≤ 3 ∧ min ((m 50 0x13).stored.getD 40 0) 2 = 1) := by
  decide +kernel

theorem witness_ScanLockChangesAtItsRuns :
    let held := scanned (fun r => { r with verdict := some .pending, lock := .locked, badRun := 15 })
    let open_ := scanned (fun r => { r with verdict := some .pending, goodRun := 3 })
    (held.scan.lock = .locked ∧ held.scan.badRun = 15 ∧ held.scan.verdict = some .pending ∧
      ([] : List ScanWord).length ≠ 93) ∧
    (open_.scan.lock = .unlocked ∧ open_.scan.goodRun = 3 ∧ open_.scan.verdict = some .pending ∧
      (scanWords 1024).length = 93 ∧ crcOf (scanWords 1024) = (scanWords 1024).getD 92 0 ∧
      (scanWords 1024).getD 91 0 = open_.clock.frame.setWidth 16) := by
  simp only [scanWords_crc]; decide +kernel

/-- The three outcomes of a strike and of a restrike: admitted at an occupancy of 95, refused at 96, above the travel limit. -/
theorem witness_StrikeFromTravelSendsNoteOn :
    let s (m : Motion) := keyed (fun r => { r with motion := m, depth := 845, lastFrame := some 1023, mark := some 16002 })
    let key := (s .travel).key 40
    let d := normalise key.cal.rest key.cal.bottom 3200
    let at_ := crossing 1023 s0.clock.frame key.depth d key.cal.tStrike
    let again := (at_ - 16002).toNat * (key.cal.tStrike - key.cal.tStart) / (key.cal.tStrike - key.cal.tRearm)
    (key.cal.enabled = true ∧ key.motion = .travel ∧ ((s .retravel).key 40).motion = .retravel ∧
      key.lastFrame = some 1023 ∧ key.mark = some 16002 ∧ key.depth < key.cal.tStrike ∧ key.cal.tStrike ≤ d) ∧
    (max 1 (at_ - 16002).toNat ≤ s0.tracker.track.travelLimit ∧ max 1 again ≤ s0.tracker.track.travelLimit ∧
      (crowded 95 (s .travel)).queue.records.length ≤ 95 ∧ s0.player.state ≠ .waiting ∧
      96 ≤ (crowded 96 (s .travel)).queue.records.length) ∧
    (64 < max 1 (at_ - 16002).toNat ∧ 64 < max 1 again) := by
  decide +kernel

theorem witness_EnteringRestSettlesTheNote :
    ((keyed (fun r => { r with note := .lost })).key 40).note = .lost ∧
    ((keyed (fun r => { r with note := .owed })).key 40).note = .owed ∧
    ((keyed (fun r => { r with note := .active, member := true })).key 40).member = true ∧
    ((crowded 95 (keyed (fun r => { r with note := .held }))).key 40).note = .held ∧
    ¬ ((crowded 96 (keyed (fun r => { r with note := .held }))).pedalUnit.damper = .engaged) := by
  decide +kernel

/-- The samples that strike nothing: a first sample; a return to REST; a SOUNDING key below the strike line; and from REST and
REARMED a pair of samples that crosses both lines of a travel. -/
theorem witness_EnteringRest_samples :
    let at_ (m : Motion) (depth : Nat) (frame : Option FrameNo) :=
      (keyed (fun r => { r with motion := m, depth := depth, lastFrame := frame })).key 40
    let d (raw : Nat) := normalise 400 3600 raw
    ((at_ .rest 0 none).cal.enabled = true ∧ (at_ .rest 0 none).motion ≠ .fault ∧ (at_ .rest 0 none).lastFrame = none) ∧
    ((at_ .travel 200 (some 1023)).lastFrame = some 1023 ∧
      ¬ ((at_ .travel 200 none).depth < 880 ∧ 880 ≤ d 401) ∧ nextMotion factoryKeyCal 200 (d 401) .travel = .rest) ∧
    ((at_ .sounding 900 (some 1023)).motion = .sounding ∧ nextMotion factoryKeyCal 900 (d 400) .sounding = .rest ∧
      nextMotion factoryKeyCal 900 (d 3600) .sounding ≠ .rest) ∧
    (119 < 120 ∧ 120 ≤ d 3600 ∧ (at_ .rest 119 (some 1023)).depth < 120 ∧ 880 ≤ d 3600) ∧
    (at_ .rearmed 599 (some 1023)).depth < 600 := by
  decide +kernel

theorem witness_NoteOffRetrySendsEveryOwed :
    let s := keyed (fun r => { r with note := .owed })
    let owed (t : State) := (List.finRange 88).filter (fun k => decide ((t.key k).note = .owed))
    (crowded 95 s).queue.records.length + (owed (crowded 95 s)).length ≤ 96 ∧
    (96 ≤ (crowded 96 s).queue.records.length ∧ owed (crowded 96 s) ≠ []) ∧ owed s0 = [] := by
  decide +kernel

theorem witness_FlightTimerExpiryLeavesTheFlightSet : ((keyed (fun r => { r with flight := 1 })).key 40).flight = 1 := by
  decide +kernel

theorem witness_KeyFaultEntersFault :
    let r := (keyed (fun r => { r with faultRun := 63, note := .held })).key 40
    r.cal.enabled = true ∧ r.motion ≠ .fault ∧ r.faultRun = 63 ∧ isFaultRaw 0 = true ∧ isFaultRaw 4095 = true := by
  decide +kernel

/-- A counting AUTO key with 62 fault samples in a row, a disabled key and one in FAULT. -/
theorem witness_KeyFault_inert_samples :
    let r := (keyed (fun r => { r with
      cal := { r.cal with mode := .auto }, faultRun := 62, stabRef := some 408, stabCount := 7, job := .counting 800 2 })).key 40
    let off := (keyed (fun r => { r with cal := { r.cal with enabled := false } })).key 40
    (r.cal.enabled = true ∧ r.motion ≠ .fault ∧ r.faultRun < 63) ∧ off.cal.enabled = false ∧
      ((keyed (fun r => { r with motion := .fault })).key 40).motion = .fault := by
  decide +kernel

/-- Due at the deadband, with the timer at 0 and at 1; and not due. -/
theorem witness_DuePedalSendsItsEvent :
    let due (n : Nat) : PedalRecord :=
      { s0.pedal 0 with awaiting := false, lastSent := some 60, value := 62, interval := n }
    let not_ : PedalRecord := { s0.pedal 0 with awaiting := false, interval := 1 }
    (pedalIsDue (due 0) ∧ pedalIsDue (due 1)) ∧ (¬ pedalIsDue not_ ∧ not_.interval = 1) ∧
      (crowded 95 s0).queue.records.length ≤ 95 ∧ 96 ≤ (crowded 96 s0).queue.records.length := by
  refine ⟨⟨⟨by decide +kernel, .inr ⟨60, by decide +kernel⟩⟩, ⟨by decide +kernel, .inr ⟨60, by decide +kernel⟩⟩⟩,
    ⟨?_, by decide +kernel⟩, by decide +kernel, by decide +kernel⟩
  rintro ⟨-, h | ⟨v, h, -⟩⟩
  · exact h.2 (by decide +kernel)
  · exact absurd h (by simp [s0, State.pedal, State.reset, State.afterPinReset, resetPedalUnit, restoredSettings, blankStore,
      factorySettings, mapVec, resetPedal])

/-- The releases: a HELD key at REST that the damper's release sends, at an occupancy of 95 and of 96, and one that the
sostenuto's release sends. -/
theorem witness_DuePedal_releases :
    let s (member : Bool) := keyed (fun r => { r with note := .held, motion := .rest, member := member })
    let up (t : State) : State := { t with pedalUnit := { t.pedalUnit with damper := .engaged } }
    ((up (s false)).pedalUnit.damper = .engaged ∧ engageAfter .engaged ((s false).pedal 0).value = .released ∧
      ((s false).key 40).note = .held ∧ ((s false).key 40).motion = .rest ∧ ((s false).key 40).member = false) ∧
    (s false).queue.refusals ≤ 65535 ∧
    (crowded 95 (s false)).queue.records.length + 1 ≤ 96 ∧ 96 ≤ (crowded 96 (s true)).queue.records.length ∧
    ((s true).pedalUnit.damper = .released ∧ ((s true).key 40).member = true) ∧ engageAfter .released 64 = .engaged := by
  decide +kernel

theorem witness_RestIsSteppedOrAveraged :
    let step := (keyed (fun r => { r with
      cal := { r.cal with mode := .auto }, stabCount := 799, stabRef := some 408 })).key 40
    let count := (keyed (fun r => { r with job := .counting (63 * 400) 63 })).key 40
    let flat := (keyed (fun r => { r with cal := { r.cal with bottom := 527 }, job := .counting (63 * 400) 63 })).key 40
    (step.cal.mode = .auto ∧ step.cal.enabled = true ∧ step.motion = .rest ∧ step.note = .idle ∧ step.job = .notListed ∧
      step.stabCount = 799 ∧ step.stabRef = some 408 ∧ distance 416 408 ≤ 8) ∧
    (count.cal.enabled = true ∧ count.motion = .rest ∧ count.note = .idle ∧ count.job = .counting (63 * 400) 63 ∧
      128 ≤ distance count.cal.bottom ((63 * 400 + 400) / 64)) ∧
    (flat.job = .counting (63 * 400) 63 ∧ distance flat.cal.bottom ((63 * 400 + 400) / 64) < 128) := by
  decide +kernel

theorem witness_RestIsStepped_bottom :
    let key := (keyed (fun r => { r with
      cal := { r.cal with mode := .auto }, motion := .sounding, lastFrame := some 1023 })).key 40
    key.cal.enabled = true ∧ key.cal.mode = .auto ∧ key.motion = .sounding ∧ key.lastFrame = some 1023 ∧
      key.cal.bottom + 16 < 3617 ∧ key.cal.tRearm ≤ normalise key.cal.rest key.cal.bottom 3617 := by
  decide +kernel

theorem witness_TheRestJobStartsAndTimesOut :
    windowOpen s0 = true ∧ (¬ ((3 : Byte).toNat ≤ (2 : Byte).toNat ∧ (2 : Byte).toNat ≤ 87)) ∧
    ((87 : Byte).toNat ≤ (87 : Byte).toNat ∧ (87 : Byte).toNat ≤ 87 ∧ s0.cal.running = false) ∧
    (let s := { s0 with cal := { s0.cal with running := true, frames := 3999 } }
     windowOpen s = true ∧ s.cal.running = true ∧ s.cal.frames = 3999) := by
  decide +kernel

theorem witness_FaultClearReturnsKeys :
    windowOpen s0 = true ∧ (88 ≤ (88 : Byte).toNat ∧ (88 : Byte).toNat ≠ 255) ∧ (87 : Byte).toNat < 88 ∧
      (255 : Byte).toNat = 255 := by
  decide +kernel

theorem witness_FaultListReadReturnsTheList : windowOpen s0 = true ∧ ([0] : List Byte) ≠ [] := by decide +kernel

theorem witness_KeyCalWriteStoresThePart :
    let good : KeyCal := factoryKeyCal
    let low : KeyCal := { factoryKeyCal with tStrike := 631 }
    let flat : KeyCal := { factoryKeyCal with bottom := 527 }
    (windowOpen s0 = true ∧ fitsBody good ∧ linesPass good ∧ 128 ≤ distance good.bottom good.rest ∧
      (s0.key 40).motion = .rest ∧ (s0.key 40).note = .idle) ∧
    (fitsBody low ∧ ¬ linesPass low) ∧ (fitsBody flat ∧ linesPass flat ∧ ¬ 128 ≤ distance flat.bottom flat.rest) ∧
    ((keyed (fun r => { r with motion := .travel })).key 40).motion ≠ .rest := by
  refine ⟨⟨?_, ?_, ?_, ?_⟩, ⟨?_, ?_⟩, ⟨?_, ?_, ?_⟩, ?_⟩ <;> (try simp only [fitsBody, linesPass]) <;> decide +kernel

theorem witness_SaveLeavesTheStoreValidOrInvalid :
    let saving (n : Nat) : State := { s0 with store := { s0.store with saving := true, saveFrames := n } }
    (windowOpen (saving 5) = true ∧ (saving 5).store.saving = true) ∧
    (windowOpen s0 = true ∧ s0.store.saving = false) ∧
    (1 ≤ (saving 1).store.saveFrames ∧ (saving 2400).store.saveFrames ≤ 2400) := by
  decide +kernel

theorem witness_RestoreLoadsTheSettings :
    let saving : State := { s0 with store := { s0.store with saving := true } }
    let moving := keyed (fun r => { r with motion := .travel })
    (windowOpen s0 = true ∧ s0.store.saving = false ∧ s0.cal.running = false ∧
      ∀ k : KeyIdx, (s0.key k).motion = .rest ∧ (s0.key k).note = .idle) ∧
    (windowOpen saving = true ∧ saving.store.saving = true) ∧
    (windowOpen moving = true ∧ moving.store.saving = false ∧ (moving.key 40).motion ≠ .rest) := by
  decide +kernel

theorem witness_CurveWriteStoresClamped :
    windowOpen s0 = true ∧ 1 ≤ ([0] : List Byte).length ∧ (List.replicate 232 (200 : Byte)).length ≤ 232 ∧
      3 < (4 : Byte).toNat ∧ (3 : Byte).toNat ≤ 3 ∧ ([0, 0] : List Byte).length < 3 ∧
      234 < (List.replicate 235 (0 : Byte)).length := by
  decide +kernel

theorem witness_CurveReadReturnsEntries :
    windowOpen s0 = true ∧ ([] : List Byte).length ≠ 3 ∧ 3 < (4 : Byte).toNat ∧ (0 : Byte).toNat = 0 ∧
      232 < (233 : Byte).toNat ∧ ((3 : Byte).toNat ≤ 3 ∧ 1 ≤ (1 : Byte).toNat ∧ (232 : Byte).toNat ≤ 232) := by
  decide +kernel

theorem witness_TrackConfigStoresClamped :
    windowOpen s0 = true ∧ 65535 < 65536 ∧ 255 < 256 ∧ ([0] : List Byte).length ≠ 0 ∧ ([0] : List Byte).length ≠ 7 ∧
    (s0.tracker.track = { travelLimit := 32000, flightFrames := 320, clearanceLine := 300, splitKey := 39 } ∧
      (64 ≤ 32000 ∧ 32000 ≤ 43520 ∧ 80 ≤ 320 ∧ 320 ≤ 2000 ∧ 1 ≤ 300 ∧ 300 ≤ 1023 ∧ 39 ≤ 88)) := by
  decide +kernel

theorem witness_PedalCalWriteStores :
    windowOpen s0 = true ∧ (List.replicate 17 (128 : Byte)).length = 17 ∧
      (400 ≤ 4095 ∧ 4095 ≤ 4095 ∧ 128 ≤ distance 528 400) ∧ ¬ 128 ≤ distance 527 400 ∧ 65535 < 65536 := by
  decide +kernel

theorem witness_RecordReadsReplyAndKeepState :
    let ok (first count : Byte) (most : Nat) : Prop :=
      first.toNat ≤ 87 ∧ 1 ≤ count.toNat ∧ count.toNat ≤ most ∧ first.toNat + count.toNat ≤ 88
    windowOpen s0 = true ∧ ok 80 8 8 ∧ ¬ ok 79 9 8 ∧ ok 72 16 16 ∧ ¬ ok 73 16 16 ∧ ¬ ok 0 0 16 ∧ 2 < (3 : Byte).toNat := by
  decide +kernel

theorem witness_RailMoveFollowsTheTable :
    let acoustic := railed (fun r => { r with state := .acoustic })
    let silent := railed (fun r => { r with state := .silent })
    let waiting (o : RailOrigin) := railed (fun r => { r with state := .waiting, origin := some o, target := some .silent })
    let paused := railed (fun r => { r with state := .paused, target := some .silent })
    (windowOpen acoustic = true ∧ acoustic.rail.state = RailEnd.acoustic.state) ∧
    (windowOpen silent = true ∧ silent.rail.state = .silent) ∧ s0.rail.state = .unknown ∧
    ((waiting .acoustic).rail.state = .waiting ∧ (waiting .acoustic).rail.origin = some RailEnd.acoustic.origin ∧
      (waiting .acoustic).rail.target = some .silent ∧ (waiting .acoustic).rail.origin ≠ some RailEnd.silent.origin) ∧
    ((waiting .unknown).rail.origin = some .unknown ∧ (waiting .unknown).rail.target ≠ some .acoustic) ∧
    (paused.rail.state = .paused ∧ paused.rail.target = some .silent ∧ paused.rail.target ≠ some .acoustic) ∧
    1 < (2 : Byte).toNat ∧ ([] : List Byte).length ≠ 1 := by
  decide +kernel

theorem witness_RailConfigStoresClamped :
    windowOpen s0 = true ∧ 99 < 65536 ∧ 65535 < 65536 ∧ 2 < (3 : Byte).toNat ∧ 1 < (2 : Byte).toNat ∧
      (2 : Byte).toNat ≤ 2 ∧ (1 : Byte).toNat ≤ 1 ∧ ([0] : List Byte).length ≠ 7 := by
  decide +kernel

theorem witness_RailMonitorSetsTheFlag :
    windowOpen s0 = true ∧ (1 : Byte).toNat ≤ 1 ∧ 1 < (2 : Byte).toNat ∧ 1 < ([0, 0] : List Byte).length ∧
      (∃ u, exec (.pinReset ⟨true, false⟩) s0 = .next u) ∧
      (let s := linked (fun m => { m with resetDue := true })
       s.msg.resetDue = true ∧ ∃ u, exec (.softReset ⟨true, false⟩) s = .next u) :=
  ⟨by decide +kernel, by decide, by decide, by decide, ⟨_, rfl⟩, by decide +kernel, ⟨_, rfl⟩⟩

/-- Waiting with the interlock satisfied and not, the target's switch asserted and not. -/
theorem witness_WaitEndsInAStartAnArrivalOrATimeout :
    let s := railed (fun r => { r with
      state := .waiting, origin := some .acoustic, target := some .silent, clearance := 1 })
    (s.clock.started = true ∧ s.rail.state = .waiting ∧ s.rail.origin = some .acoustic ∧ s.rail.target = some .silent) ∧
    (clear (safe s) ∧ endSwitch ⟨true, false⟩ .silent = false ∧ endSwitch ⟨false, true⟩ .silent = true) ∧
    (¬ clear s ∧ s.rail.clearance = 1) ∧ 1 < ({ s.rail with clearance := 2 } : Rail).clearance := by
  simp only [clear]; decide +kernel

/-- A move driving and paused, at its target and not, with the interlock satisfied and not. -/
theorem witness_AMoveArrivesStallsResumesOrIsBlocked :
    let drive := railed (fun r => { r with state := .engaging, target := some .silent, motion := 1 })
    let pause := railed (fun r => { r with state := .paused, target := some .silent, pause := 24000 })
    (drive.clock.started = true ∧ drive.rail.target = some .silent ∧ drive.rail.state = .engaging ∧ drive.rail.motion = 1 ∧
      clear (safe drive) ∧ ¬ clear drive) ∧
    (pause.rail.state = .paused ∧ clear (safe pause) ∧ ¬ clear pause ∧
      8 * pause.rail.config.clearTimeout ≤ pause.rail.pause) ∧
    (1 < ({ drive.rail with motion := 2 } : Rail).motion ∧
      ({ pause.rail with pause := 23999 } : Rail).pause < 8 * pause.rail.config.clearTimeout) ∧
    (endSwitch ⟨true, false⟩ .silent = false ∧ endSwitch ⟨false, true⟩ .silent = true) := by
  simp only [clear]; decide +kernel

theorem witness_DisplacementAndConflictFollowTheSwitches :
    let s := railed (fun r => { r with state := .silent })
    let faulty := railed (fun r => { r with state := .railFault, reason := some .switchConflict })
    (s.clock.started = true ∧ s.rail.state = RailEnd.silent.state ∧ endSwitch ⟨true, false⟩ .silent = false ∧ ¬ clear s) ∧
    ¬ (s.rail.state = .railFault ∧ s.rail.reason = some .switchConflict) ∧
    (faulty.rail.state = .railFault ∧ faulty.rail.reason = some .switchConflict) ∧
    (((⟨false, true⟩ : Switches).acoustic && (⟨false, true⟩ : Switches).silent) = false ∧
      endSwitch ⟨false, true⟩ .silent = true ∧ s0.rail.state = .unknown) := by
  simp only [clear]; decide +kernel

theorem witness_MixerSettingsAreStored :
    windowOpen s0 = true ∧ 65535 < 65536 ∧ 2 < (3 : Byte).toNat := by decide +kernel

theorem witness_MixStatusReportsAndClears :
    windowOpen s0 = true ∧ 1 < (2 : Byte).toNat ∧ ([] : List Byte).length ≠ 1 := by decide +kernel

theorem witness_GainTableWriteStoresClamped :
    windowOpen s0 = true ∧ 1 ≤ ([32769] : List Nat).length ∧ (List.replicate 64 65535).length ≤ 64 ∧
      (∀ v ∈ ([32769] : List Nat), v < 65536) ∧ 2 < (3 : Byte).toNat ∧ 63 < (64 : Byte).toNat ∧ (2 : Byte).toNat ≤ 2 ∧
      (63 : Byte).toNat ≤ 63 ∧ ([0, 0, 0] : List Byte).length < 4 ∧ 130 < (List.replicate 132 (0 : Byte)).length ∧
      ([0, 0, 0, 0, 0] : List Byte).length % 2 = 1 := by
  decide +kernel

theorem witness_BalanceTriggerFollowsTheTable :
    let p (frames : Nat) : PendingBalance := { target := 0, frames := frames, trigger := .atBar }
    let s (frames : Nat) := mixed (fun m => { m with pendingBal := some (p frames) })
    ((s 0).mixer.pendingBal = some (p 0) ∧ (s 0).player.state = .stopped ∧ (p 0).frames = 0) ∧
    ((s 8).mixer.pendingBal = some (p 8) ∧ (p 8).trigger = .atBar ∧ 0 < (p 8).frames) ∧
    (p 8).trigger ≠ .atSection ∧ s0.mixer.pendingBal = none := by
  decide +kernel

theorem witness_AFadeReachesItsTargetExactly :
    (let m := { s0.mixer with fade := some { target := 32768, remaining := 4095 } }
     1 ≤ 4095 ∧ m.fade = some { target := 32768, remaining := 4095 }) ∧
    (let s := mixed (fun m => { m with fade := some { target := 0, remaining := 1 } })
     s.mixer.fade = some { target := 0, remaining := 1 }) := by
  decide +kernel

theorem witness_ClickEndSendsTheLastSamples :
    let c (n : Nat) : Click := { beatOne := true, amplitude := 524288, next := n, cut := false }
    let s (n : Nat) := mixed (fun m => { m with click := some (c n) })
    ((s 90).mixer.click = some (c 90) ∧ (c 90).next ≤ 90 ∧ (c 0).next ≤ 90 ∧ (c 90).cut = false ∧
      (s 90).mixer.tone.length = 6 ∧ s0.mixer.click = none ∧ s0.mixer.tone.length = 6) ∧
    ((s 96).mixer.click = some (c 96) ∧ 96 ≤ (c 96).next ∧ ({ c 6 with cut := true } : Click).cut = true) := by
  decide +kernel

/-- An advance to the second beat of the take's bar, just below the section's limit and in free play beyond it, with the metronome
on: it starts a click of another beat than 1; one to the second bar starts one of beat 1. -/
theorem witness_ClickEnd_advance :
    let s := playing (fun p => { p with state := .running, metronome := true, pos := 1023999 })
    let limit (u : State) := sectionEnd u.memory.take u.player.active * u.memory.take.header.barLen * 256
    let free : State := { s with player := { s.player with freePlay := true } }
    (1024000 < limit s ∧ limit s - 1 < limit s ∧ free.player.freePlay = true) ∧
      (advanced 1024000 s).mixer.click = some { beatOne := false, amplitude := 262144, next := 0, cut := false } ∧
      (advanced 4096000 free).mixer.click = some { beatOne := true, amplitude := 524288, next := 0, cut := false } := by
  decide +kernel

theorem witness_HeadersAndRolesOfTheAreas :
    windowOpen s0 = true ∧ 16384 < 65536 ∧ 128000 < 4294967296 ∧ 16 < 256 ∧
      (s0.player.state = .stopped ∧ 16384 ≤ 16384 ∧ barsFit 128000 16 ∧ ¬ barsFit 799 1) ∧
      (playing (fun p => { p with state := .running })).player.state ≠ .stopped ∧ ([0] : List Byte).length ≠ 7 ∧
      s0.recorder.state = .idle ∧ ([0] : List Byte) ≠ [] := by
  simp only [barsFit]; decide +kernel

theorem witness_TakeWriteStoresRecords :
    let spacer := rec_ 65535 .spacer 3 9 9
    let bad := rec_ 0 .noteOn 0 88 64
    (windowOpen s0 = true ∧ Memory.wf s0.memory = true ∧ s0.player.state = .stopped ∧ 16383 < 65536 ∧
      (∀ r ∈ [spacer], fitsRecord r) ∧ 16383 + [spacer].length ≤ 16384 ∧ ∀ r ∈ [spacer], acceptable r) ∧
    ((∀ r ∈ [bad], fitsRecord r) ∧ ¬ ∀ r ∈ [bad], acceptable r) ∧
    (playing (fun p => { p with state := .armed })).player.state ≠ .stopped ∧ ([] : List Byte).length < 10 := by
  simp only [fitsRecord, acceptable]; decide +kernel

theorem witness_RecordingStartsByItsTrigger :
    let armed (t : RecTrigger) := recording (fun r => { r with
      state := .armed, trigger := some t, pendingBars := some (16000, 4) })
    (windowOpen s0 = true ∧ s0.recorder.state = .idle ∧ barsFit 16000 4 ∧ ¬ barsFit 16000 0 ∧ (0 : Byte).toNat = 0 ∧
      1 ≤ (2 : Byte).toNat ∧ (2 : Byte).toNat ≤ 2) ∧
    ((armed .cue).recorder.state ≠ .idle ∧ (armed .cue).recorder.trigger = some .cue ∧
      (armed .cue).recorder.pendingBars = some (16000, 4)) ∧
    ((armed .firstKey).recorder.state = .armed ∧ (armed .firstKey).recorder.trigger = some .firstKey ∧
      Memory.wf (armed .firstKey).memory = true ∧ (armed .firstKey).player.state ≠ .running) := by
  simp only [barsFit]; decide +kernel

/-- Live records observed while RECORDING: a NOTE_ON of a key that is not held, of one held on the other part and on its own, a
NOTE_OFF of a held key and of another, a pedal record with pedals included and not. -/
theorem witness_Recording_appends :
    let s := recording (fun r => { r with
      state := .recording, base := some (.frames 1000), sounding := [(40, 1), (52, 0)], pedals := true })
    let ev (kind : EventKind) (key : Nat) : EventRecord := { (default : EventRecord) with kind := kind, key := key }
    let off : Recorder := { s.recorder with pedals := false }
    (s.recorder.state = .recording ∧ s.recorder.base = some (.frames 1000) ∧ Memory.wf s.memory = true ∧
      capturedAt (.frames 1000) s - s.recorder.lastPos ≤ 65535 ∧ s.memory.capture.header.count + 2 ≤ 16294) ∧
    (called (ev .noteOn 41) s.recorder = 1 ∧ called (ev .noteOn 40) s.recorder = 2 ∧ called (ev .noteOn 52) s.recorder = 1 ∧
      heldFor s.recorder.sounding 40 = some 1) ∧
    (called (ev .noteOff 40) s.recorder = 1 ∧ called (ev .noteOff 41) s.recorder = 0) ∧
    (called (ev .damper 0) s.recorder = 1 ∧ called (ev .soft 2) off = 0) := by
  decide +kernel

theorem witness_RecordStopClosesTheCapture :
    let s := recording (fun r => { r with
      state := .recording, base := some (.frames 1000), lastPos := 10, sounding := [(40, 1), (52, 1)], damperValue := 72
      pedals := true })
    (windowOpen s0 = true ∧ s0.recorder.state = .idle) ∧
    (recording (fun r => { r with state := .armed })).recorder.state = .armed ∧
    (windowOpen s = true ∧ Memory.wf s.memory = true ∧ s.recorder.state = .recording ∧
      s.recorder.base = some (.frames 1000) ∧ s.memory.capture.header.count ≤ 16294 ∧
      (s.clock.frame - 1000).toNat - s.recorder.lastPos ≤ 65535) := by
  decide +kernel

/-- A recording of 16,294 records, which the next appended record closes; and one whose gap of 65,536 frames takes a SPACER. -/
theorem witness_RecordStop_reserve_and_spacers :
    let s (start : FrameNo) := recording (fun r => { r with state := .recording, base := some (.frames start) })
    let full : State := { s 1000 with memory := { (s 1000).memory with area1 :=
      { slots := [], header := { count := 16294, barLen := 16000, beats := 4 } } } }
    let ev : EventRecord := { (default : EventRecord) with kind := .noteOn }
    let far : FrameNo := 1024 - 65536
    (Memory.wf full.memory = true ∧ full.memory.capture.header.count = 16294 ∧ called ev full.recorder = 1 ∧
      capturedAt (.frames 1000) full - full.recorder.lastPos ≤ 65535) ∧
    (capturedAt (.frames far) (s far) - (s far).recorder.lastPos = 65536 ∧ (65536 - 1) / 65535 = 1 ∧
      (s far).memory.capture.header.count + 1 ≤ 16294) := by
  decide +kernel

theorem witness_SectionsAndPartsAreSet :
    windowOpen s0 = true ∧ (2 < 4 ∧ 4 < 65536) ∧ (65535 = 65535 ∧ 65535 < 65536) ∧ (4 ≤ 4 ∧ ¬ 4 = 65535) ∧
      (0 : Byte).toNat ≤ 1 ∧ 1 < (2 : Byte).toNat ∧ s0.player.state = .stopped ∧
      (let s := playing (fun p => { p with state := .running })
       s.player.state ≠ .stopped ∧ s.player.state ≠ .armed) ∧ 3 < (4 : Byte).toNat := by
  decide +kernel

theorem witness_RateFollowAndMetronomeAreStored :
    windowOpen s0 = true ∧ 65535 < 65536 ∧ 16777215 < 16777216 ∧ (1 : Byte).toNat ≤ 1 ∧
      ((0 : Byte).toNat = 0 ∧ (playing (fun p => { p with state := .waiting })).player.state = .waiting) ∧
      ¬ ((0 : Byte).toNat = 0 ∧ s0.player.state = .waiting) ∧ 1 < (2 : Byte).toNat := by
  decide +kernel

theorem witness_StartsStopsAndLocatesFollowTheState :
    let at_ (st : PlayerState) := playing (fun p => { p with state := st, flushDest := some .stop })
    (windowOpen s0 = true ∧ s0.player.state = .stopped ∧ 0 < sectionEnd s0.memory.take s0.player.active ∧
      ¬ 1 < sectionEnd s0.memory.take s0.player.active) ∧
    ((at_ .armed).player.state = .armed ∧ (at_ .locating).player.state = .locating ∧ (at_ .running).player.state = .running ∧
      (at_ .waiting).player.state = .waiting ∧ (at_ .flushing).player.state = .flushing ∧
      (at_ .flushing).player.flushDest = some .stop) ∧
    ((playing (fun p => { p with state := .flushing, flushDest := some .endOfPass })).player.flushDest ≠ some .stop) ∧
    (at_ .armed).player.state ≠ .stopped ∧ (1 : Byte).toNat ≤ 1 ∧ 1 < (2 : Byte).toNat := by
  decide +kernel

/-- The search of an empty take ends at slot 0; that of a take of two records to bar 1 ends at the second, at the bar line. -/
theorem witness_LocateEndsAtTheFirstRecordAtOrBeyondTheBar :
    let s := playing (fun p => { p with state := .locating, locate := some (1, 0) })
    let t := taking [(0, rec_ 100 .noteOn 0 39 70), (1, rec_ 15900 .noteOff 0 39 0)] 2 s
    let a := t.memory.take
    let met (n : Nat) : Prop := a.header.count ≤ n ∨ (slotAt a.slots n).kind = .endMark ∨
      1 * a.header.barLen ≤ positionOf a.slots n
    (s.player.state = .locating ∧ s.player.locate = some (1, 0) ∧ s.memory.take.header.count ≤ 0) ∧
    (t.player.locate = some (1, 0) ∧ met 1 ∧ ¬ met 0 ∧ 1 < 0 + 256) := by
  decide +kernel

/-- `n` NOTE_ONs, all at the start of the take. -/
def level (n : Nat) : Slots := (List.range n).map (fun i => (i, rec_ 0 .noteOn 0 39 70))

theorem slotAt_map_of_mem (r : TakeRecord) (l : List Nat) (n : Nat) (h : n ∈ l) :
    slotAt (l.map (fun i => (i, r))) n = r := by
  induction l with
  | nil => cases h
  | cons a l ih =>
    simp only [List.map_cons, slotAt]
    split
    · rfl
    · exact ih (by simpa [‹¬ n = a›] using h)

theorem positionOf_level (n i : Nat) : positionOf (level n) i = 0 := by
  simp only [positionOf, level]
  refine List.sum_eq_zero fun d hd => ?_
  simp only [List.mem_map, List.mem_filter] at hd
  obtain ⟨_, ⟨⟨_, _, rfl⟩, _⟩, rfl⟩ := hd
  rfl

/-- The search step from slot 0 to bar 1 in such a take: with 300 records its 256 slots end nothing and the count lies beyond;
with 256 the count ends it, at the slot after the last one examined. -/
theorem witness_LocateEnds_goes_on :
    let s (count : Nat) := taking (level count) count (playing (fun p => { p with state := .locating, locate := some (1, 0) }))
    let met (t : State) (n : Nat) : Prop := t.memory.take.header.count ≤ n ∨ (slotAt t.memory.take.slots n).kind = .endMark ∨
      1 * t.memory.take.header.barLen ≤ positionOf t.memory.take.slots n
    ((s 300).player.state = .locating ∧ (s 300).player.locate = some (1, 0) ∧ (s 300).msg.resetDue = false ∧
      0 + 256 < (s 300).memory.take.header.count ∧ ∀ n < 256, ¬ met (s 300) n) ∧
    ((s 256).player.locate = some (1, 0) ∧ met (s 256) 256 ∧ ∀ n < 256, ¬ met (s 256) n) := by
  have unmet (c n : Nat) (hc : 256 ≤ c) (hn : n < 256) : ¬ (c ≤ n ∨ (slotAt (level c) n).kind = .endMark ∨
      1 * 16000 ≤ positionOf (level c) n) := by
    rw [positionOf_level, level, slotAt_map_of_mem _ _ _ (List.mem_range.2 (by omega))]
    simp [rec_]; omega
  exact ⟨⟨rfl, rfl, by decide +kernel, by decide +kernel, fun n hn => unmet 300 n (by omega) hn⟩,
    rfl, .inl (le_refl _), fun n hn => unmet 256 n (by omega) hn⟩

/-- A flush with a note, a damper and a guide to end, at an occupancy that leaves room for just these three, and one for two. -/
theorem witness_FlushEndSendsWhatRemainsAndDecides :
    let s := crowded 61 (playing (fun p => { p with
      state := .flushing, flushDest := some .endOfPass, sounding := [⟨1, 60, .b⟩], lit := [⟨0, 39, .a⟩]
      parts := p.parts.set 2 { p.parts[2] with lastDamper := 80 } }))
    s.player.state = .flushing ∧ s.player.flushDest = some .endOfPass ∧
      pairsAscending s.player.sounding ∧ pairsAscending s.player.lit ∧
      s.queue.records.length + (s.player.sounding.length + (damped s.player).length + s.player.lit.length) ≤ 64 ∧
      64 < (crowded 62 s).queue.records.length + (s.player.sounding.length + (damped s.player).length + s.player.lit.length) := by
  unfold pairsAscending; decide +kernel

/-- A flush with nothing to send at a full Event Queue, and one of two notes on the boundary of the order: equal parts, keys rising. -/
theorem witness_FlushEnd_nothing :
    let s := crowded 96 (playing (fun p => { p with state := .flushing, flushDest := some .stop }))
    (s.player.state = .flushing ∧ s.player.flushDest = some .stop ∧ pairsAscending s.player.sounding ∧
      pairsAscending s.player.lit ∧ s.player.sounding = [] ∧ damped s.player = [] ∧ s.player.lit = []) ∧
    pairsAscending [⟨0, 60, .b⟩, ⟨0, 61, .a⟩, ⟨1, 0, .b⟩] ∧ ¬ pairsAscending [⟨0, 60, .b⟩, ⟨0, 60, .a⟩] := by
  unfold pairsAscending; decide +kernel

theorem witness_PassAndTakeEndAtTheirPoints :
    let p := playing (fun p => { p with state := .running, pos := 4095999 })
    let f := playing (fun p => { p with state := .running, freePlay := true })
    (p.player.state = .running ∧ p.player.sounding = [] ∧ p.player.lit = [] ∧ damped p.player = [] ∧
      p.player.freePlay = false ∧ releasable (p.player.pos + p.player.rate) p = false ∧
      sectionEnd p.memory.take p.player.active * p.memory.take.header.barLen * 256 ≤ p.player.pos + p.player.rate) ∧
    (f.player.freePlay = true ∧ firstEnd f.memory.take ≤ f.player.readIdx ∧
      endPosition f.memory.take * 256 ≤ f.player.pos + f.player.rate) := by
  decide +kernel

/-- A held NOTE_ON at position 100, refused at an occupancy of 64 at the fourteenth and fifteenth frame, admitted at 63. -/
theorem witness_AHeldRecordIsRetried :
    let r := rec_ 100 .noteOn 0 39 70
    let s (hold : Nat) := taking [(0, r)] 1 (playing (fun p => { p with state := .running, pos := 25600, hold := hold }))
    let t := s 14
    (t.player.state = .running ∧ 0 < t.player.hold ∧ t.player.hold ≤ 15 ∧ t.player.expected = [] ∧
      cleanupItem t.player = none ∧ slotAt t.memory.take.slots t.player.readIdx = r ∧ r.kind = .noteOn ∧ (partAt t.player r.part).mode = .play ∧
      t.player.readIdx < firstEnd t.memory.take ∧ positionOf t.memory.take.slots t.player.readIdx * 256 = t.player.pos ∧
      t.player.freePlay = false ∧
      t.player.pos + t.player.rate < sectionEnd t.memory.take t.player.active * t.memory.take.header.barLen * 256) ∧
    (64 ≤ (crowded 64 t).queue.records.length ∧ t.player.hold = 14 ∧ t.player.lag = .armed ∧ (s 13).player.hold ≠ 14 ∧
      (s 13).player.hold ≠ 15 ∧ (crowded 63 t).queue.records.length ≤ 63 ∧
      firstEnd t.memory.take ≤ t.player.readIdx + 1) := by
  decide +kernel

/-- A held NOTE_ON of a GUIDE part with follow on: its chord of two pairs, gathered with room for their GUIDE_ONs and without. -/
theorem witness_AHeldRecord_chord :
    let r (key : Nat) := rec_ 100 .noteOn 0 key 70
    let s (hold : Nat) := taking [(0, r 39), (1, r 43)] 2 (playing (fun p => { p with
      state := .running, follow := true, pos := 25600, hold := hold, parts := p.parts.set 0 { p.parts[0] with mode := .guide } }))
    let t := s 1
    (t.player.state = .running ∧ 0 < t.player.hold ∧ cleanupItem t.player = none ∧ t.player.follow = true ∧
      (slotAt t.memory.take.slots t.player.readIdx).kind = .noteOn ∧ (partAt t.player 0).mode = .guide ∧
      t.player.gatherLimit = none ∧ t.player.readIdx < firstEnd t.memory.take ∧
      positionOf t.memory.take.slots t.player.readIdx * 256 = t.player.pos ∧ t.player.freePlay = false ∧
      t.player.pos < sectionEnd t.memory.take t.player.active * t.memory.take.header.barLen * 256) ∧
    (positionOf t.memory.take.slots 1 ≤ 100 + t.player.window ∧ (crowded 62 t).queue.records.length + 2 ≤ 64 ∧
      64 ≤ (crowded 64 t).queue.records.length) := by
  decide +kernel

/-- The release of a tick of a RUNNING Player with the counter 0: a NOTE_ON and a NOTE_OFF due, a third record beyond; at 62
records both enter, at 63 the second is held and at 64 the first; with an empty take nothing is due, at any occupancy; and a counter of 15. -/
theorem witness_AHeldRecord_tick :
    let slots : Slots := [(0, rec_ 100 .noteOn 0 39 70), (1, rec_ 0 .noteOff 0 39 0), (2, rec_ 16000 .noteOn 0 41 70)]
    let s := taking slots 3 (playing (fun p => { p with state := .running, pos := 25500 }))
    let p := s.player
    let a := s.memory.take
    let limit := sectionEnd a p.active * a.header.barLen * 256
    let due (u : State) : List Nat := (List.range (firstEnd u.memory.take)).filter (fun i => decide (u.player.readIdx ≤ i) &&
      decide (positionOf u.memory.take.slots i * 256 ≤ p.pos + p.rate) && (u.player.freePlay ||
        decide (positionOf u.memory.take.slots i * 256 < limit)))
    (p.state = .running ∧ p.hold = 0 ∧ ({ p with hold := 15 } : Player).hold ≤ 15 ∧ p.expected = [] ∧ cleanupItem p = none ∧
      (∀ n < 4, (partAt p n).pending = none) ∧ pairsAscending p.sounding ∧ pairsAscending p.lit ∧ p.freePlay = false ∧
      p.pos + p.rate < limit ∧ p.pos + p.rate < endPosition a * 256 ∧ p.follow = false) ∧
    (due s = [0, 1] ∧ (playbackRun a (64 - (crowded 62 s).queue.records.length) (due s) p).1.map (fun ev => ev.kind) = [.noteOn, .noteOff] ∧
      [62, 63, 64, 96].map (fun n => (playbackRun a (64 - (crowded n s).queue.records.length) (due s) p).2.2) =
        [none, some 1, some 0, some 0] ∧ due (taking [] 0 s) = []) := by
  unfold pairsAscending; decide +kernel

/-- Two notes to end with room for both at an occupancy of 62 and for one at 63, with the hold counter at 14 and at 13. -/
theorem witness_PartCleanupEndsTheNotesOfChangedParts :
    let s := crowded 62 (playing (fun p => { p with
      state := .waiting, sounding := [⟨0, 60, .b⟩], lit := [⟨1, 39, .a⟩], expected := [(1, 39)]
      parts := p.parts.set 0 { p.parts[0] with mode := .mute } }))
    s.player.state = .waiting ∧ pairsAscending s.player.sounding ∧ pairsAscending s.player.lit ∧
      (partAt s.player 0).mode ≠ .play ∧
      (partAt s.player 1).mode ≠ .guide ∧ s.queue.records.length + 2 ≤ 64 ∧ { s.player with rate := 255 }.rate ≠ 256 ∧
      64 < (crowded 63 s).queue.records.length + 2 ∧
      (let p : Player := { s.player with hold := 14 }
       p.hold ≤ 15 ∧ 14 ≤ p.hold ∧ p.lag = .armed) ∧
      ¬ 14 ≤ ({ s.player with hold := 13 } : Player).hold := by
  unfold pairsAscending; decide +kernel

/-- A clean-up at a full Event Queue with no item to present and one expected entry of a part no longer GUIDE: WAITING ends. -/
theorem witness_PartCleanup_expected :
    let s := crowded 96 (playing (fun p => { p with state := .waiting, expected := [(1, 39)] }))
    (s.player.state = .waiting ∧ pairsAscending s.player.sounding ∧ pairsAscending s.player.lit ∧ s.player.sounding = [] ∧
      s.player.lit = [] ∧ (partAt s.player 1).mode ≠ .guide) ∧
    (∃ t, exec .partCleanup s = .next t ∧ t.player.expected = [] ∧ t.player.state = .running) := by
  unfold pairsAscending
  exact ⟨by decide +kernel, _, rfl, by decide +kernel, by decide +kernel⟩

theorem witness_ReportsReplyAndKeepState :
    windowOpen s0 = true ∧ 65535 < 65536 ∧ ((2 : Byte).toNat ≤ 2 ∧ (63 : Byte).toNat ≤ 63 ∧ (64 : Byte).toNat ≤ 64) ∧
      ¬ ((3 : Byte).toNat ≤ 2) ∧ (1 ≤ (28 : Byte).toNat ∧ (28 : Byte).toNat ≤ 28) ∧ (0 : Byte).toNat = 0 ∧
      28 < (29 : Byte).toNat := by
  decide +kernel

theorem witness_StatusReportsAndResetIsPending :
    let reply : Reply := { code := 0x72, tag := 5, result := .ok [], sent := 0 }
    let s := linked (fun m => { m with resetPending := true, replies := [reply] })
    windowOpen s0 = true ∧ (s.msg.resetPending = true ∧ s.msg.resetDue = false ∧ s.msg.replies = reply :: []) := by
  decide +kernel

theorem witness_EveryMessageIsAnsweredOnce :
    let full := linked (fun m => { m with replies := List.replicate 4 default })
    let off := linked (fun m => { m with resetPending := true })
    messageParts (.railMove 7 [1]) = some (0x30, 7, [1]) ∧ off.msg.resetPending = true ∧
    (full.msg.resetPending = false ∧ 4 ≤ full.msg.replies.length) ∧
    (windowOpen s0 = true ∧ acceptsLength (0x30 : Byte).toNat ([] : List Byte).length = false) ∧
    ∀ b, messageOfCode (0x16 : Byte).toNat 7 b = none :=
  ⟨by decide, by decide +kernel, by decide +kernel, by decide +kernel, fun _ => rfl⟩

theorem witness_DownstreamFramesSettleTheLink :
    let at_ (l : LinkState) (bad good : Nat) := linked (fun m => { m with
      link := l, verdict := some .pending, badRun := bad, goodRun := good })
    (linked (fun m => { m with verdict := some .bad })).msg.verdict = some .bad ∧
    (frameWellFormed downBytes ∧ ¬ frameWellFormed []) ∧
    ((at_ .up 78 0).msg.verdict = some .pending ∧ (at_ .up 78 0).msg.link = .up ∧ (at_ .up 78 0).msg.badRun < 79) ∧
    ((at_ .up 79 0).msg.badRun = 79 ∧ (at_ .down 0 6).msg.link = .down ∧ (at_ .down 0 6).msg.goodRun < 7 ∧
      (at_ .down 0 7).msg.goodRun = 7) ∧
    (s0.msg.assembler = .idle ∧ (List.replicate 11 (0 : Byte)).length + ([] : List Byte).length = 11) := by
  simp only [frameWellFormed]; decide +kernel

/-- Segments for the three assembler states: IDLE, FIRST, FIRST and LAST, a continuation, LAST; the 15th and 16th segment. -/
theorem witness_Downstream_segments :
    let at_ (a : Assembler) := linked (fun m => { m with assembler := a })
    (List.replicate 15 (0 : Byte)).length = 15 ∧ (4 : Byte).getLsbD 2 = true ∧
      ((1 : Byte).getLsbD 2 = false ∧ (1 : Byte).getLsbD 0 = true ∧ (1 : Byte).getLsbD 1 = false) ∧
      ((3 : Byte).getLsbD 0 = true ∧ (3 : Byte).getLsbD 1 = true) ∧
      ((0 : Byte).getLsbD 0 = false ∧ (0 : Byte).getLsbD 1 = false) ∧
      ((2 : Byte).getLsbD 0 = false ∧ (2 : Byte).getLsbD 1 = true) ∧
      (at_ .discarding).msg.assembler = .discarding ∧ 14 + 1 < 16 ∧ 15 + 1 = 16 ∧
      (at_ (.assembling 15 (List.replicate 225 0))).msg.assembler = .assembling 15 (List.replicate 225 0) := by
  decide +kernel

theorem witness_TheEventQueueAdmitsAndDrains :
    let on : EventRecord := { (default : EventRecord) with kind := .noteOn }
    let off : EventRecord := { (default : EventRecord) with kind := .noteOff }
    ((crowded 95 s0).queue.records.length ≤ 95 ∧ s0.recorder.state = .idle ∧ s0.player.state ≠ .waiting) ∧
    (96 ≤ (crowded 96 s0).queue.records.length ∧ off.kind ≠ .noteOn ∧ on.kind = .noteOn ∧ s0.queue.overrun = .armed) ∧
    ({ s0.queue with overrun := .sent } : EventQueue).overrun = .sent ∧
    ((crowded 63 s0).queue.records.length ≤ 63 ∧ 64 ≤ (crowded 64 s0).queue.records.length) := by
  decide +kernel

/-- A WAITING Player, a NOTE_ON that matches its one entry, whose pair is lit, and one that matches none. -/
theorem witness_TheEventQueue_match :
    let s := playing (fun p => { p with state := .waiting, expected := [(0, 39)], lit := [⟨0, 39, .b⟩] })
    (s.player.state = .waiting ∧ s.recorder.state = .idle ∧ (crowded 62 s).queue.records.length ≤ 62 ∧
      63 ≤ (crowded 63 s).queue.records.length) ∧
    ((0, 39) ∈ s.player.expected ∧ (∀ e ∈ s.player.expected, e.2 = 39 → 0 ≤ e.1) ∧ pairStream s.player.lit 0 39 = some .b ∧
      pairStream s0.player.lit 0 39 = none) ∧
    ∀ e ∈ s.player.expected, e.2 ≠ 40 := by
  decide +kernel

theorem witness_EveryStepKeepsTheQueuesBounded :
    let s := { crowded 96 s0 with pending := [.noteOffRetry] }
    queueBounded s ∧ linkQueuesBounded s ∧ ∃ t, step s = .next t :=
  ⟨⟨by decide +kernel, by decide +kernel⟩, ⟨by decide +kernel, by decide +kernel⟩, ⟨_, rfl⟩⟩

/-- A key in FAULT and listed; a WAITING Player with an entry and a light. -/
theorem witness_EveryStepKeeps_faults_and_sets :
    let faulty : State := { keyed (fun r => { r with motion := .fault, note := .owed }) with
      cal := { s0.cal with faultList := [40] }, pending := [.noteOffRetry] }
    let held : State := { playing (fun p => { p with state := .waiting, expected := [(0, 39)], lit := [⟨0, 39, .a⟩] }) with
      pending := [.partCleanup] }
    (faultListKept faulty ∧ ∃ t, step faulty = .next t) ∧ (playerSetsKept held ∧ ∃ t, step held = .next t) := by
  refine ⟨⟨?_, _, rfl⟩, ?_, _, rfl⟩
  · unfold faultListKept; decide +kernel
  · unfold playerSetsKept pairsAscending; decide +kernel

/-- Every counter at its top and a message of one segment under assembly, at a step that refuses one NOTE_OFF more. -/
theorem witness_EveryStepKeeps_counters :
    let q : EventQueue := { (crowded 96 s0).queue with refusals := 65535, drops := 65535 }
    let s : State := { keyed (fun r => { r with note := .owed }) with
      queue := q, player := { s0.player with hold := 15 }, pending := [.noteOffRetry]
      msg := { s0.msg with assembler := .assembling 1 (List.replicate 15 0) } }
    countersKept s ∧ ∃ t, step s = .next t := by
  refine ⟨⟨le_refl _, le_refl _, le_refl _, ?_⟩, _, rfl⟩
  rintro n bytes h
  cases h
  decide

theorem witness_MessageBytesSpellTheirCommand :
    (wellFormed (.promote 1 []) = true ∧ messageBytes (.promote 1 []) = some [0x55, 1, 0, 0]) ∧
      wellFormed (.takeWrite 7 (List.replicate 234 0)) = true := by
  decide +kernel

theorem witness_EveryStepKeepsMemoryCanonical :
    Memory.wf s0.memory = true ∧ ∃ t, step { s0 with pending := [.promote 1 []] } = .next t :=
  ⟨by decide +kernel, ⟨_, rfl⟩⟩

/-- A driving rail with the interlock satisfied, and a tick that may end it. -/
theorem witness_EveryStepKeeps_driver :
    let s : State := { railed (fun r => { r with
      state := .engaging, target := some .silent, driver := .driveIn
      eval := { satisfied := true, flightSize := 0, deep := 0, lock := .locked, overflow := false } }) with
      pending := [.railStall ⟨true, false⟩] }
    driverGuarded s ∧ ∃ t, step s = .next t := by
  refine ⟨?_, _, rfl⟩
  unfold driverGuarded; decide +kernel

theorem witness_EveryStepKeepsTheMixerInBounds :
    balanceBounded s0 ∧ samplesBounded s0 ∧ gateAgrees s0 ∧ ∃ t, step { s0 with pending := [.fadeEnd] } = .next t := by
  refine ⟨⟨by decide +kernel, ?_, ?_⟩, ?_, by constructor <;> decide +kernel, ⟨_, rfl⟩⟩
  · intro f h; exact absurd h (by simp [s0, State.reset, State.afterPinReset, resetMixer])
  · intro f h; exact absurd h (by simp [s0, State.reset, State.afterPinReset, resetMixer])
  · intro p h
    have : s0.mixer.headphone = List.replicate 6 (0, 0) := by decide +kernel
    rw [this] at h
    obtain ⟨-, rfl⟩ := List.mem_replicate.1 h
    simp [sampleOk]

end Sys2Proof.Tests
end

/-! PROOFS. Chapter 02: CURVE_WRITE, CURVE_READ and TRACK_CONFIG (R32 to R40). First the rules of what these messages use (clamps,
the open window, curve entries, the storing of values), then one equation per case of each message, then the statements. -/

namespace Sys2Proof.Proofs.StrikeVelocity

open Sys2Proof.Machine

/-! ## Clamps -/

/-- A clamp changes exactly the values outside the range. -/
theorem clampNat_ne_iff {lo hi n : Nat} : clampNat lo hi n ≠ n ↔ n < lo ∨ hi < n := by
  unfold clampNat; split_ifs <;> omega

/-- A clamp from 0 is a minimum. -/
theorem clampNat_zero (hi n : Nat) : clampNat 0 hi n = min hi n := by
  unfold clampNat; split_ifs <;> omega

/-- The values a CURVE_WRITE counts as clamped are 0 and those above 127 (R32). -/
theorem curveValue_ne_iff (v : Byte) : curveValue v ≠ v.toNat ↔ v.toNat = 0 ∨ 127 < v.toNat := by
  rw [curveValue, clampNat_ne_iff, Nat.lt_one_iff]

/-! ## A message in an open window -/

/-- The command that a message's operation answers in an open window: the operation's state, with its reply appended. -/
theorem completed {code tag : Byte} {op : MsgOp} {s t : State} {r : MsgResult} (h : windowOpen s = true)
    (hop : op s = (t, r)) : (.next (completeMessage code tag op s) : Result) = .next (appendReply code tag r t) := by
  rw [completeMessage_open h, hop]

/-! ## Curve entries -/

/-- An entry that exists is read from its curve. -/
theorem curveEntry_eq (curves : Vector Curve 4) {n e : Nat} (hn : n < 4) (he : e < 256) :
    curveEntry curves n e = curves[n][e] := by
  simp [curveEntry, hn, he]

/-- The entries of a curve just replaced are those of the new curve. -/
theorem curveEntry_set_self (curves : Vector Curve 4) (new : Curve) {n e : Nat} (hn : n < 4) (he : e < 256) :
    curveEntry (curves.set n new hn) n e = new[e] := by
  rw [curveEntry_eq _ hn he, Vector.getElem_set_self]

/-- Replacing one curve leaves the entries of the others as they were. -/
theorem curveEntry_set_ne (curves : Vector Curve 4) (new : Curve) {n m e : Nat} (hn : n < 4) (hm : m < 4) (he : e < 256)
    (h : m ≠ n) : curveEntry (curves.set n new hn) m e = curveEntry curves m e := by
  rw [curveEntry_eq _ hm he, curveEntry_eq _ hm he, Vector.getElem_set_ne hn hm h.symm]

/-- Values stored leave every entry that none of them goes to. -/
theorem storeCurve_getElem_other (vals : List Byte) (i : Nat) (curve : Curve) {e : Nat} (he : e < 256)
    (h : ∀ j < vals.length, e ≠ (i + j) % 256) : (storeCurve vals i curve)[e] = curve[e] := by
  induction vals generalizing i curve with
  | nil => rfl
  | cons v vs ih =>
    have hfirst : i % 256 ≠ e := (h 0 (by simp)).symm
    have hrest : ∀ j < vs.length, e ≠ (i + 1 + j) % 256 := fun j hj => by
      have := h (j + 1) (by simpa using hj)
      omega
    rw [storeCurve, ih _ _ hrest, Vector.getElem_set_ne _ he hfirst]

/-- Of at most 256 values none is overwritten by a later one: each is found, clamped, at its entry, 255 followed by 0 (R32). -/
theorem storeCurve_getElem_stored (vals : List Byte) (i : Nat) (curve : Curve) {j : Nat} (hj : j < vals.length)
    (hlen : vals.length ≤ 256) : (storeCurve vals i curve)[(i + j) % 256]'(Nat.mod_lt _ (by decide)) = curveValue vals[j] := by
  induction vals generalizing i curve j with
  | nil => simp at hj
  | cons v vs ih =>
    rw [List.length_cons] at hj hlen
    cases j with
    | zero =>
      have hlater : ∀ k < vs.length, (i + 0) % 256 ≠ (i + 1 + k) % 256 := by omega
      rw [storeCurve, storeCurve_getElem_other _ _ _ _ hlater]
      exact Vector.getElem_set_self _
    | succ j =>
      have hidx : i + (j + 1) = i + 1 + j := by omega
      simp only [storeCurve, hidx, List.getElem_cons_succ]
      exact ih _ _ (by omega) (by omega)

/-! ## CURVE_WRITE -/

/-- CURVE_WRITE in an open window leaves what its operation leaves, and one reply. -/
theorem exec_curveWrite {tag : Byte} {body : List Byte} {s t : State} {r : MsgResult} (h : windowOpen s = true)
    (hop : curveWriteOp body s = (t, r)) : exec (.curveWrite tag body) s = .next (appendReply 0x13 tag r t) :=
  completed h hop

theorem curveWriteOp_badLength {body : List Byte} (h : body.length < 3 ∨ 234 < body.length) (s : State) :
    curveWriteOp body s = (s, .err .badLength) := by
  rw [curveWriteOp, if_pos h]

/-- A curve number, a start index and 1 to 232 values are a body of allowed length (R32). -/
theorem curveWrite_length_ok {n start : Byte} {vals : List Byte} (h1 : 1 ≤ vals.length) (h232 : vals.length ≤ 232) :
    ¬ ((n :: start :: vals).length < 3 ∨ 234 < (n :: start :: vals).length) := by
  simp only [List.length_cons]; omega

theorem curveWriteOp_badValue {n start : Byte} {vals : List Byte} (h1 : 1 ≤ vals.length) (h232 : vals.length ≤ 232)
    (hn : 3 < n.toNat) (s : State) : curveWriteOp (n :: start :: vals) s = (s, .err .badValue) := by
  have hcurve : ¬ u8At (n :: start :: vals) 0 < 4 := Nat.not_lt.2 hn
  rw [curveWriteOp, if_neg (curveWrite_length_ok h1 h232), dif_neg hcurve]

/-- The state a stored CURVE_WRITE leaves (R32). -/
def curveWritten (n : Nat) (hn : n < 4) (start : Nat) (vals : List Byte) (s : State) : State :=
  { s with tracker := { s.tracker with
      curves := s.tracker.curves.set n (storeCurve vals start s.tracker.curves[n]) hn } }

theorem curveWriteOp_stored {n start : Byte} {vals : List Byte} (h1 : 1 ≤ vals.length) (h232 : vals.length ≤ 232)
    (hn : n.toNat < 4) (s : State) :
    curveWriteOp (n :: start :: vals) s = (curveWritten n.toNat hn start.toNat vals s,
      .ok (leBytes 1 n.toNat ++ leBytes 1 vals.length ++
        leBytes 1 (vals.filter (fun v => decide (v.toNat = 0 ∨ 127 < v.toNat))).length ++
        leBytes 1 ((start.toNat + vals.length) % 256))) := by
  have hcurve : u8At (n :: start :: vals) 0 < 4 := hn
  rw [curveWriteOp, if_neg (curveWrite_length_ok h1 h232), dif_pos hcurve]
  simp only [← curveValue_ne_iff]
  rfl

/-- Each value written is found, clamped, at its entry. -/
theorem curveWritten_entry_stored {n start : Nat} (hn : n < 4) {vals : List Byte} (hlen : vals.length ≤ 256) (s : State)
    {j : Nat} (hj : j < vals.length) :
    curveEntry (curveWritten n hn start vals s).tracker.curves n ((start + j) % 256) = clampNat 1 127 (vals[j]).toNat :=
  (curveEntry_set_self _ _ hn (Nat.mod_lt _ (by decide))).trans (storeCurve_getElem_stored vals start _ hj hlen)

/-- An entry of the curve that no value goes to stands. -/
theorem curveWritten_entry_other {n start : Nat} (hn : n < 4) (vals : List Byte) (s : State) {e : Nat} (he : e < 256)
    (h : ∀ j < vals.length, e ≠ (start + j) % 256) :
    curveEntry (curveWritten n hn start vals s).tracker.curves n e = curveEntry s.tracker.curves n e := by
  rw [curveEntry_eq s.tracker.curves hn he, ← storeCurve_getElem_other vals start _ he h]
  exact curveEntry_set_self _ _ hn he

/-- The entries of every other curve stand. -/
theorem curveWritten_curve_other {n start : Nat} (hn : n < 4) (vals : List Byte) (s : State) {m e : Nat} (hm : m < 4)
    (h : m ≠ n) (he : e < 256) :
    curveEntry (curveWritten n hn start vals s).tracker.curves m e = curveEntry s.tracker.curves m e :=
  curveEntry_set_ne _ _ hn hm he h

/-- Settles O22: the length, the curve number and the storing are the three branches of the message; what is stored is read
back through `storeCurve`, by induction on the values. -/
theorem curveWriteStoresClamped : Obligations.CurveWriteStoresClamped := by
  intro tag n start vals body s hw h1 h232 i
  refine ⟨fun hlen => ?badLength, fun hn => ?badValue, fun hn => ?stored⟩
  case badLength => exact exec_curveWrite hw (curveWriteOp_badLength hlen s)
  case badValue => exact exec_curveWrite hw (curveWriteOp_badValue h1 h232 hn s)
  case stored =>
    have hn4 : n.toNat < 4 := Nat.lt_succ_of_le hn
    refine ⟨_, exec_curveWrite hw (curveWriteOp_stored h1 h232 hn4 s), ?_, ?_, ?_, rfl, rfl⟩
    · exact fun j hj => curveWritten_entry_stored hn4 (by omega) s hj
    · exact fun e he h => curveWritten_entry_other hn4 vals s he h
    · exact fun m hm hne e he => curveWritten_curve_other hn4 vals s hm hne he

/-! ## CURVE_READ -/

/-- CURVE_READ in an open window leaves what its operation leaves, and one reply. -/
theorem exec_curveRead {tag : Byte} {body : List Byte} {s t : State} {r : MsgResult} (h : windowOpen s = true)
    (hop : curveReadOp body s = (t, r)) : exec (.curveRead tag body) s = .next (appendReply 0x14 tag r t) :=
  completed h hop

theorem curveReadOp_badLength {body : List Byte} (h : body.length ≠ 3) (s : State) :
    curveReadOp body s = (s, .err .badLength) := by
  rw [curveReadOp, if_pos h]

theorem curveReadOp_badValue {n start count : Byte} (h : 3 < n.toNat ∨ count.toNat = 0 ∨ 232 < count.toNat) (s : State) :
    curveReadOp [n, start, count] s = (s, .err .badValue) := by
  have hfields : 3 < u8At [n, start, count] 0 ∨ u8At [n, start, count] 2 = 0 ∨ 232 < u8At [n, start, count] 2 := h
  rw [curveReadOp, if_neg (by simp), if_pos hfields]

theorem curveReadOp_ok {n start count : Byte} (h : ¬ (3 < n.toNat ∨ count.toNat = 0 ∨ 232 < count.toNat)) (s : State) :
    curveReadOp [n, start, count] s = (s, .ok ([n, start, count] ++ (List.range count.toNat).map (fun j =>
      BitVec.ofNat 8 (curveEntry s.tracker.curves n.toNat ((start.toNat + j) % 256))))) := by
  have hfields : ¬ (3 < u8At [n, start, count] 0 ∨ u8At [n, start, count] 2 = 0 ∨ 232 < u8At [n, start, count] 2) := h
  rw [curveReadOp, if_neg (by simp), if_neg hfields]
  simp [u8At, leBytes, List.map_eq_flatMap]

/-- Settles O23: one case of the message per clause. -/
theorem curveReadReturnsEntries : Obligations.CurveReadReturnsEntries := by
  intro tag body n start count s hw
  refine ⟨fun hlen => ?badLength, fun hbad => ?badValue, fun hn h1 h232 => ?ok⟩
  case badLength => exact exec_curveRead hw (curveReadOp_badLength hlen s)
  case badValue => exact exec_curveRead hw (curveReadOp_badValue hbad s)
  case ok => exact exec_curveRead hw (curveReadOp_ok (by omega) s)

/-! ## TRACK_CONFIG -/

/-- TRACK_CONFIG in an open window leaves what its operation leaves, and one reply. -/
theorem exec_trackConfig {tag : Byte} {body : List Byte} {s t : State} {r : MsgResult} (h : windowOpen s = true)
    (hop : trackConfigOp body s = (t, r)) : exec (.trackConfig tag body) s = .next (appendReply 0x15 tag r t) :=
  completed h hop

/-- The body of a TRACK_CONFIG write (R40). -/
abbrev trackBody (limit frames line split : Nat) : List Byte :=
  leBytes 2 limit ++ leBytes 2 frames ++ leBytes 2 line ++ leBytes 1 split

/-- The four settings, each clamped to its range (R39). -/
abbrev clampedTrack (limit frames line split : Nat) : TrackSettings :=
  { travelLimit := clampNat 64 43520 limit, flightFrames := clampNat 80 2000 frames
    clearanceLine := clampNat 1 1023 line, splitKey := min 88 split }

/-- The two bytes of a 16-bit number give it back. -/
theorem u16_of_bytes {n : Nat} (h : n < 65536) :
    (BitVec.ofNat 8 n).toNat + 256 * (BitVec.ofNat 8 (n / 256)).toNat = n := by
  simp only [BitVec.toNat_ofNat]; omega

/-- The body of a write gives its four fields back. -/
theorem trackBody_fields {limit frames line split : Nat} (hl : limit < 65536) (hf : frames < 65536) (hc : line < 65536)
    (hs : split < 256) :
    u16At (trackBody limit frames line split) 0 = limit ∧ u16At (trackBody limit frames line split) 2 = frames ∧
      u16At (trackBody limit frames line split) 4 = line ∧ u8At (trackBody limit frames line split) 6 = split :=
  ⟨u16_of_bytes hl, u16_of_bytes hf, u16_of_bytes hc, Nat.mod_eq_of_lt hs⟩

theorem trackConfigOp_write {limit frames line split : Nat} (hl : limit < 65536) (hf : frames < 65536) (hc : line < 65536)
    (hs : split < 256) (s : State) :
    trackConfigOp (trackBody limit frames line split) s =
      ({ s with tracker := { s.tracker with track := clampedTrack limit frames line split } },
        .ok (trackBytes (clampedTrack limit frames line split) ++ boolByte (decide (limit < 64 ∨ 43520 < limit)) ++
          boolByte (decide (frames < 80 ∨ 2000 < frames)) ++ boolByte (decide (line < 1 ∨ 1023 < line)) ++
          boolByte (decide (88 < split)))) := by
  obtain ⟨hlimit, hframes, hline, hsplit⟩ := trackBody_fields hl hf hc hs
  have hlen : (trackBody limit frames line split).length = 7 := by simp [leBytes_length]
  have hstored : trackOfBody (trackBody limit frames line split) = clampedTrack limit frames line split := by
    rw [trackOfBody, hlimit, hframes, hline, hsplit, clampNat_zero]
  have hkey : min 88 split ≠ split ↔ 88 < split := by omega
  rw [trackConfigOp, if_neg (by omega), if_pos hlen]
  simp only [hstored, hlimit, hframes, hline, hsplit, hkey, clampNat_ne_iff]

theorem trackConfigOp_read (s : State) : trackConfigOp [] s = (s, .ok (trackBytes s.tracker.track ++ [0, 0, 0, 0])) := rfl

theorem trackConfigOp_badLength {body : List Byte} (h0 : body.length ≠ 0) (h7 : body.length ≠ 7) (s : State) :
    trackConfigOp body s = (s, .err .badLength) := by
  rw [trackConfigOp, if_neg h0, if_neg h7]

/-- Settings within their ranges are stored as written. -/
theorem clampedTrack_inside {limit frames line split : Nat} (l1 : 64 ≤ limit) (l2 : limit ≤ 43520)
    (f1 : 80 ≤ frames) (f2 : frames ≤ 2000) (c1 : 1 ≤ line) (c2 : line ≤ 1023) (s1 : split ≤ 88) :
    clampedTrack limit frames line split =
      { travelLimit := limit, flightFrames := frames, clearanceLine := line, splitKey := split } := by
  rw [clampedTrack, clampNat_inside l1 l2, clampNat_inside f1 f2, clampNat_inside c1 c2, Nat.min_eq_right s1]

/-- Settles O24: one case of the message per clause; the last clause is the write with the settings that are in force. -/
theorem trackConfigStoresClamped : Obligations.TrackConfigStoresClamped := by
  intro tag limit frames line split body s hw hl hf hc hs i settings
  have hwrite := exec_trackConfig (tag := tag) hw (trackConfigOp_write hl hf hc hs s)
  refine ⟨hwrite, ?read, fun h0 h7 => ?badLength, fun hforce l1 l2 f1 f2 c1 c2 s1 => ⟨_, hwrite, ?same⟩⟩
  case read => exact exec_trackConfig hw (trackConfigOp_read s)
  case badLength => exact exec_trackConfig hw (trackConfigOp_badLength h0 h7 s)
  case same =>
    have hstands : clampedTrack limit frames line split = s.tracker.track :=
      (clampedTrack_inside l1 l2 f1 f2 c1 c2 s1).trans hforce.symm
    rw [hstands]
    rfl

end Sys2Proof.Proofs.StrikeVelocity

/-! PROOFS. Chapter 03: the Pedal Unit (R43 to R53) and PEDAL_CAL_WRITE (R55). First what the observation of a live record
leaves alone, then one equation per case of a pedal's event, of a sample, of the engage states and of a release, then the
statements. -/

namespace Sys2Proof.Proofs.Pedals

open Sys2Proof.Machine
open Sys2Proof.Claims (pedalIsDue pedalEvent engageAfter noteOff released)

/-! ## Entries of a mapped vector and key records -/

/-- A mapped vector holds at each place what the function gives there. -/
theorem mapVec_getElem {α β : Type} {n : Nat} (f : α → β) (v : Vector α n) {i : Nat} (h : i < n) :
    (mapVec f v)[i] = f v[i] := by
  simp [mapVec]

/-- A pedal record stored twice is the one stored last. -/
theorem setPedal_setPedal (s : State) (p : PedalIdx) (a b : PedalRecord) :
    (s.setPedal p a).setPedal p b = s.setPedal p b := by
  simp [State.setPedal]

/-- A pedal record stored where it stands changes nothing. -/
theorem setPedal_pedal (s : State) (p : PedalIdx) : s.setPedal p (s.pedal p) = s := by
  simp [State.setPedal, State.pedal]

/-! ## The Capture Recorder's work -/

/-- The recorder's work: event memory, the recorder, the notices and the free values may have changed, and nothing else. -/
def OnlyRecorderWork (s t : State) : Prop :=
  t = { s with memory := t.memory, recorder := t.recorder, msg := t.msg, free := t.free }

theorem OnlyRecorderWork.refl (s : State) : OnlyRecorderWork s s := rfl

theorem OnlyRecorderWork.trans {s t u : State} (h : OnlyRecorderWork s t) (h' : OnlyRecorderWork t u) :
    OnlyRecorderWork s u := by
  unfold OnlyRecorderWork at *
  rw [h'.trans (by rw [h])]

theorem OnlyRecorderWork.tracker {s t : State} (h : OnlyRecorderWork s t) : t.tracker = s.tracker := by rw [h]
theorem OnlyRecorderWork.pedalUnit {s t : State} (h : OnlyRecorderWork s t) : t.pedalUnit = s.pedalUnit := by rw [h]
theorem OnlyRecorderWork.queue {s t : State} (h : OnlyRecorderWork s t) : t.queue = s.queue := by rw [h]

theorem raiseNotice_onlyRecorderWork (kind : NoticeKind) (data : List Byte) (s : State) :
    OnlyRecorderWork s (raiseNotice kind data s) := by
  unfold raiseNotice; split <;> rfl

theorem appendAll_onlyRecorderWork (rs : List TakeRecord) (s : State) : OnlyRecorderWork s (appendAll rs s) := by
  induction rs generalizing s with
  | nil => exact .refl s
  | cons r rs ih => exact .trans (t := appendTake r s) rfl (ih _)

theorem appendSpacers_onlyRecorderWork (n : Nat) (s : State) : OnlyRecorderWork s (appendSpacers n s) := by
  induction n generalizing s with
  | zero => exact .refl s
  | succ n ih => exact .trans (t := appendSpacer s) rfl (ih _)

theorem closingSpacers_onlyRecorderWork (s : State) : OnlyRecorderWork s (closingSpacers s) := by
  unfold closingSpacers
  split
  · exact appendSpacers_onlyRecorderWork _ s
  · exact .refl s

theorem closeCapture_onlyRecorderWork (s : State) : OnlyRecorderWork s (closeCapture s) :=
  ((closingSpacers_onlyRecorderWork s).trans (appendAll_onlyRecorderWork _ _)).trans rfl

theorem closeByReserve_onlyRecorderWork (kind : TakeKind) (s : State) : OnlyRecorderWork s (closeByReserve kind s) :=
  (closeCapture_onlyRecorderWork s).trans (raiseNotice_onlyRecorderWork _ _ _)

theorem captureConsider_onlyRecorderWork (ev : EventRecord) (s : State) : OnlyRecorderWork s (captureConsider ev s) := by
  unfold captureConsider
  split
  · exact .refl s
  · exact .refl s
  · split
    · exact ((appendSpacers_onlyRecorderWork _ s).trans (appendAll_onlyRecorderWork _ _)).trans rfl
    · exact closeByReserve_onlyRecorderWork _ s

theorem captureObserve_onlyRecorderWork (ev : EventRecord) (s : State) : OnlyRecorderWork s (captureObserve ev s) := by
  unfold captureObserve
  split
  · exact captureConsider_onlyRecorderWork ev s
  · split
    · exact .trans (t := startCapture s) rfl (captureConsider_onlyRecorderWork ev _)
    · exact .refl s
  · exact .refl s

/-! ## A live record that is no NOTE_ON -/

/-- The Player compares NOTE_ONs only, so any other live record is observed by the recorder alone (R87, R147). -/
theorem observeLive_onlyRecorderWork {ev : EventRecord} (h : ev.kind ≠ .noteOn) (s : State) :
    OnlyRecorderWork s (observeLive ev s) := by
  have hplayer : observeLive ev s = captureObserve ev s := by
    rw [observeLive, followObserve, if_neg (fun hw => h hw.2)]
  rw [hplayer]
  exact captureObserve_onlyRecorderWork ev s

/-- Only a refused NOTE_ON counts as a drop; any other refusal is counted and nothing else (R81, R89). -/
theorem refuseLive_eq {ev : EventRecord} (h : ev.kind ≠ .noteOn) (s : State) :
    refuseLive ev s = { s with queue := { s.queue with refusals := min 65535 (s.queue.refusals + 1) } } := by
  rw [refuseLive, if_neg h]
  rfl

/-! ## Pedal events (R46 to R48) -/

theorem pedalDue_iff (r : PedalRecord) : pedalDue r = true ↔ pedalIsDue r := by
  cases h : r.lastSent <;> simp [pedalDue, pedalIsDue, h, or_assoc]

theorem pedalEventOf_eq (p : PedalIdx) (r : PedalRecord) : pedalEventOf p r = pedalEvent p r.value := by
  fin_cases p <;> rfl

/-- A pedal's event is no NOTE_ON. -/
theorem pedalEvent_kind_ne_noteOn (p : PedalIdx) (value : Nat) : (pedalEvent p value).kind ≠ .noteOn := by
  fin_cases p <;> simp [pedalEvent]

/-- The record of a pedal whose event has just been admitted (R47, R48). -/
abbrev sentRecord (r : PedalRecord) : PedalRecord := { r with lastSent := some r.value, interval := 4 }

/-- An admitted event sets the last sent value and the timer. -/
theorem attemptPedal_admitted {p : PedalIdx} {s : State} (h : s.queue.records.length ≤ 95) :
    attemptPedal p s = (observeLive (pedalEvent p (s.pedal p).value) (enqueue (pedalEvent p (s.pedal p).value) s)).setPedal p
      (sentRecord (s.pedal p)) := by
  let ev := pedalEvent p (s.pedal p).value
  have hunit : (observeLive ev (enqueue ev s)).pedalUnit = s.pedalUnit :=
    (observeLive_onlyRecorderWork (pedalEvent_kind_ne_noteOn p _) _).pedalUnit
  have hpedal : (observeLive ev (enqueue ev s)).pedal p = s.pedal p := by rw [State.pedal, hunit]; rfl
  rw [attemptPedal, pedalEventOf_eq, presentLive_admitted h]
  simp only [if_true]
  rw [hpedal]

/-- A refused event is counted and leaves the pedal's record. -/
theorem attemptPedal_refused {p : PedalIdx} {s : State} (h : 96 ≤ s.queue.records.length) :
    attemptPedal p s = { s with queue := { s.queue with refusals := min 65535 (s.queue.refusals + 1) } } := by
  rw [attemptPedal, pedalEventOf_eq, presentLive_refused h, refuseLive_eq (pedalEvent_kind_ne_noteOn p _)]
  simp

/-- A due pedal with its timer at 0 makes its attempt. -/
theorem considerPedal_due {p : PedalIdx} {s : State} (hdue : pedalIsDue (s.pedal p)) (h0 : (s.pedal p).interval = 0) :
    considerPedal p s = attemptPedal p s := by
  rw [considerPedal, if_pos ((pedalDue_iff _).2 hdue), if_pos h0]

/-- A pedal that is not due presents nothing; an absent last sent value becomes 0 where the pedal is not awaiting: its value is
then 0, or it would be due (log 15). -/
theorem considerPedal_notDue {p : PedalIdx} {s : State} (hdue : ¬ pedalIsDue (s.pedal p)) :
    considerPedal p s = s.setPedal p { s.pedal p with lastSent :=
      if (s.pedal p).awaiting = false ∧ (s.pedal p).lastSent = none then some 0 else (s.pedal p).lastSent } := by
  have hvalue : (s.pedal p).awaiting = false ∧ (s.pedal p).lastSent = none → (s.pedal p).value = 0 :=
    fun ⟨ha, hl⟩ => by_contra fun hv => hdue ⟨ha, .inl ⟨hl, hv⟩⟩
  rw [considerPedal, if_neg (mt (pedalDue_iff _).1 hdue)]
  by_cases habsent : (s.pedal p).awaiting = false ∧ (s.pedal p).lastSent = none
  · rw [if_pos ⟨habsent.1, habsent.2, hvalue habsent⟩, if_pos habsent]
  · rw [if_neg (fun h => habsent ⟨h.1, h.2.1⟩), if_neg habsent]
    exact (setPedal_pedal s p).symm

/-- Whether a pedal is due does not depend on its timer. -/
theorem pedalIsDue_interval (r : PedalRecord) (n : Nat) : pedalIsDue { r with interval := n } ↔ pedalIsDue r := Iff.rfl

/-- PEDAL_EVENT_RETRY of a due pedal with its timer at 0. -/
theorem exec_pedalEventRetry {p : PedalIdx} {s : State} (hdue : pedalIsDue (s.pedal p)) (h0 : (s.pedal p).interval = 0) :
    exec (.pedalEventRetry p) s = .next (attemptPedal p s) := by
  change execPedalEventRetry p s = _
  rw [execPedalEventRetry, if_pos ⟨(pedalDue_iff _).2 hdue, h0⟩]

/-- PEDAL_INTERVAL_EXPIRY of a timer at 1: the timer reaches 0 and the pedal is considered. -/
theorem exec_pedalIntervalExpiry {p : PedalIdx} {s : State} (h1 : (s.pedal p).interval = 1) :
    exec (.pedalIntervalExpiry p) s = .next (considerPedal p (s.setPedal p { s.pedal p with interval := 0 })) := by
  change execPedalIntervalExpiry p s = _
  rw [execPedalIntervalExpiry, if_pos h1]

/-- The timer of a due pedal expires: the attempt is that of the pedal with its timer at 0. -/
theorem exec_pedalIntervalExpiry_due {p : PedalIdx} {s : State} (hdue : pedalIsDue (s.pedal p))
    (h1 : (s.pedal p).interval = 1) :
    exec (.pedalIntervalExpiry p) s = .next (attemptPedal p (s.setPedal p { s.pedal p with interval := 0 })) := by
  rw [exec_pedalIntervalExpiry h1, considerPedal_due] <;> rw [pedal_setPedal_self]
  exact (pedalIsDue_interval _ 0).2 hdue

/-- The timer of a pedal that is not due expires. -/
theorem exec_pedalIntervalExpiry_notDue {p : PedalIdx} {s : State} (hdue : ¬ pedalIsDue (s.pedal p))
    (h1 : (s.pedal p).interval = 1) :
    exec (.pedalIntervalExpiry p) s = .next (s.setPedal p { s.pedal p with
      interval := 0
      lastSent := if (s.pedal p).awaiting = false ∧ (s.pedal p).lastSent = none then some 0 else (s.pedal p).lastSent }) := by
  rw [exec_pedalIntervalExpiry h1, considerPedal_notDue, setPedal_setPedal, pedal_setPedal_self]
  rw [pedal_setPedal_self]
  exact mt (pedalIsDue_interval _ 0).1 hdue

/-! ## Samples (R44, R45) -/

theorem pedalSample_fault {raw : Nat} (h : raw = 0 ∨ raw = 4095) (r : PedalRecord) : pedalSample raw r = r := by
  have hfault : isFaultRaw raw = true := by simpa [isFaultRaw] using h
  rw [pedalSample, if_pos hfault]

theorem pedalSample_good {raw : Nat} (h1 : 1 ≤ raw) (h2 : raw ≤ 4094) (r : PedalRecord) :
    pedalSample raw r = { r with
      value := pedalValue r.cal.map (normalise r.cal.rest r.cal.bottom raw), awaiting := false } := by
  have hgood : ¬ isFaultRaw raw = true := by simp only [isFaultRaw, Bool.or_eq_true, beq_iff_eq]; omega
  rw [pedalSample, if_neg hgood]

/-! ## Engage states and the sostenuto set (R49, R50) -/

theorem engageOf_eq (e : Engage) (value : Nat) : engageOf e value = engageAfter e value := by
  cases e with
  | released => simp only [engageOf, engageAfter, ← Nat.not_lt, ite_not]
  | engaged => simp only [engageOf, engageAfter, ← Nat.not_lt, ite_not]

/-- The sostenuto pedal falls to RELEASED exactly where it was ENGAGED and the value is below 48. -/
theorem engageAfter_fall_iff (e : Engage) (value : Nat) :
    e = .engaged ∧ engageAfter e value = .released ↔ e = .engaged ∧ value < 48 := by
  refine and_congr_right fun he => ?_
  subst he
  simp only [engageAfter]
  split_ifs <;> simp <;> omega

/-- The set formed holds the keys whose status is ON or HELD. -/
theorem formSostenuto_key (s : State) (k : KeyIdx) : (formSostenuto s).key k =
    { s.key k with member := decide ((s.key k).note = .active ∨ (s.key k).note = .held) } := by
  have hmark : (formSostenuto s).key k = { s.key k with
      member := decide ((s.key k).note = .active) || decide ((s.key k).note = .held) } :=
    mapVec_getElem _ s.tracker.keys k.isLt
  rw [hmark, Bool.decide_or]

/-- The set emptied clears every key's mark and nothing else. -/
theorem clearSostenuto_key (s : State) (k : KeyIdx) : (clearSostenuto s).key k = { s.key k with member := false } :=
  mapVec_getElem _ s.tracker.keys k.isLt

theorem updateSostenuto_pedalUnit (s : State) : (updateSostenuto s).pedalUnit =
    { s.pedalUnit with sostenuto := engageAfter s.pedalUnit.sostenuto (s.pedal 1).value } := by
  rw [updateSostenuto, engageOf_eq]
  dsimp only
  split <;> rfl

theorem updateSostenuto_key (s : State) (k : KeyIdx) : (updateSostenuto s).key k = { s.key k with
    member :=
      if s.pedalUnit.sostenuto = .released ∧ engageAfter s.pedalUnit.sostenuto (s.pedal 1).value = .engaged then
        decide ((s.key k).note = .active ∨ (s.key k).note = .held)
      else (s.key k).member } := by
  rw [updateSostenuto, engageOf_eq]
  dsimp only
  split
  · exact formSostenuto_key _ k
  · rfl

/-- Step 2 changes key records and the Pedal Unit only. -/
theorem updateSostenuto_frame (s : State) : updateSostenuto s =
    { s with tracker := { s.tracker with keys := (updateSostenuto s).tracker.keys }
             pedalUnit := (updateSostenuto s).pedalUnit } := by
  unfold updateSostenuto
  dsimp only
  split <;> rfl

/-! ## A NOTE_OFF attempt -/

theorem attemptNoteOff_admitted {s : State} (h : s.queue.records.length ≤ 95) (k : KeyIdx) :
    (attemptNoteOff k s).key k = { s.key k with note := .idle } ∧
      (attemptNoteOff k s).queue = { s.queue with records := s.queue.records ++ [noteOff s k] } := by
  have hobs : OnlyRecorderWork (enqueue (noteOffOf s k) s) (observeLive (noteOffOf s k) (enqueue (noteOffOf s k) s)) :=
    observeLive_onlyRecorderWork (by simp [noteOffOf]) _
  rw [attemptNoteOff, presentLive_admitted h]
  refine ⟨?_, hobs.queue⟩
  rw [key_setKey_self, State.key, hobs.tracker]
  rfl

theorem attemptNoteOff_refused {s : State} (h : 96 ≤ s.queue.records.length) (k : KeyIdx) :
    (attemptNoteOff k s).key k = { s.key k with note := .owed } ∧
      (attemptNoteOff k s).queue = { s.queue with refusals := min 65535 (s.queue.refusals + 1) } := by
  rw [attemptNoteOff, presentLive_refused h, refuseLive_eq (by simp [noteOffOf])]
  exact ⟨key_setKey_self _ _ _, rfl⟩

/-- Whether admitted or refused, a NOTE_OFF presented leaves the key records and the Pedal Unit to its sender. -/
theorem presentLive_noteOff_frame (s : State) (k : KeyIdx) :
    (presentLive (noteOffOf s k) s).1.tracker = s.tracker ∧ (presentLive (noteOffOf s k) s).1.pedalUnit = s.pedalUnit := by
  have hkind : (noteOffOf s k).kind ≠ .noteOn := by simp [noteOffOf]
  rcases Nat.lt_or_ge s.queue.records.length 96 with h | h
  · have hobs := observeLive_onlyRecorderWork hkind (enqueue (noteOffOf s k) s)
    rw [presentLive_admitted (Nat.le_of_lt_succ h)]
    exact ⟨hobs.tracker, hobs.pedalUnit⟩
  · rw [presentLive_refused h, refuseLive_eq hkind]
    exact ⟨rfl, rfl⟩

theorem attemptNoteOff_key_ne (s : State) {k j : KeyIdx} (h : j ≠ k) : (attemptNoteOff k s).key j = s.key j := by
  rw [attemptNoteOff, key_setKey_ne _ _ _ _ h, State.key, (presentLive_noteOff_frame s k).1]
  rfl

theorem attemptNoteOff_pedalUnit (s : State) (k : KeyIdx) : (attemptNoteOff k s).pedalUnit = s.pedalUnit :=
  (presentLive_noteOff_frame s k).2

/-- A NOTE_OFF sent leaves the records of the other keys' NOTE_OFFs. -/
theorem map_noteOff_attemptNoteOff (s : State) {k : KeyIdx} {ks : List KeyIdx} (h : k ∉ ks) :
    ks.map (noteOff (attemptNoteOff k s)) = ks.map (noteOff s) :=
  List.map_congr_left fun j hj => by
    rw [noteOff, attemptNoteOff_key_ne s (ne_of_mem_of_not_mem hj h), noteOff]

/-! ## Releases (R52, R53) -/

/-- The release of no key. -/
theorem released_nil (s : State) : released [] false s s :=
  ⟨fun _ _ => rfl, fun _ => ⟨by simp, by simp⟩, fun _ hne => absurd rfl hne⟩

/-- A release is the NOTE_OFF of its first key, then the release of the others. -/
theorem released_cons {k : KeyIdx} {ks : List KeyIdx} {s t : State} (hk : k ∉ ks)
    (h : released ks false (attemptNoteOff k s) t) (hnil : ks = [] → t = attemptNoteOff k s) :
    released (k :: ks) false s t := by
  obtain ⟨hother, hroom, hfull⟩ := h
  have hstands : t.key k = (attemptNoteOff k s).key k := hother k hk
  have hne {j : KeyIdx} (hj : j ∈ ks) : (attemptNoteOff k s).key j = s.key j :=
    attemptNoteOff_key_ne s (ne_of_mem_of_not_mem hj hk)
  refine ⟨fun j hj => ?other, fun hlen => ?room, fun hlen _ => ?full⟩
  case other =>
    rw [hother j (List.not_mem_of_not_mem_cons hj)]
    simp only [attemptNoteOff_key_ne s (List.ne_of_not_mem_cons hj)]
  case room =>
    rw [List.length_cons] at hlen
    obtain ⟨hkey, hqueue⟩ := attemptNoteOff_admitted (s := s) (by omega) k
    obtain ⟨hkeys, hrecords⟩ := hroom (by rw [hqueue, List.length_append, List.length_singleton]; omega)
    refine ⟨List.forall_mem_cons.2 ⟨hstands.trans hkey, fun j hj => by rw [hkeys j hj]; simp only [hne hj]⟩, ?_⟩
    rw [hrecords, hqueue, map_noteOff_attemptNoteOff s hk]
    simp
  case full =>
    obtain ⟨hkey, hqueue⟩ := attemptNoteOff_refused hlen k
    by_cases hks : ks = []
    · subst hks
      rw [hnil rfl]
      simpa using ⟨hkey, hqueue⟩
    · obtain ⟨hkeys, hcount⟩ := hfull (by rw [hqueue]; exact hlen) hks
      refine ⟨List.forall_mem_cons.2 ⟨hstands.trans hkey, fun j hj => by rw [hkeys j hj]; simp only [hne hj]⟩, ?_⟩
      rw [hcount, hqueue, List.length_cons]
      simp only [EventQueue.mk.injEq, true_and, and_true]
      omega

theorem releaseKeys_cons {k : KeyIdx} {s : State} (hk : (s.key k).note = .held) (ks : List KeyIdx) :
    releaseKeys (k :: ks) s = releaseKeys ks (attemptNoteOff k s) := by
  rw [releaseKeys, List.foldl_cons, releaseRequest, if_pos hk]
  rfl

/-- HELD keys named to the Key Tracker are released. -/
theorem releaseKeys_released {ks : List KeyIdx} {s : State} (hnd : ks.Nodup) (hheld : ∀ k ∈ ks, (s.key k).note = .held) :
    released ks false s (releaseKeys ks s) := by
  induction ks generalizing s with
  | nil => exact released_nil s
  | cons k ks ih =>
    obtain ⟨hk, hnd⟩ := List.nodup_cons.1 hnd
    obtain ⟨hkheld, hheld⟩ := List.forall_mem_cons.1 hheld
    have hstill : ∀ j ∈ ks, ((attemptNoteOff k s).key j).note = .held := fun j hj => by
      rw [attemptNoteOff_key_ne s (ne_of_mem_of_not_mem hj hk), hheld j hj]
    rw [releaseKeys_cons hkheld]
    exact released_cons hk (ih hnd hstill) (fun h => by rw [h]; rfl)

theorem releaseKeys_pedalUnit (ks : List KeyIdx) (s : State) : (releaseKeys ks s).pedalUnit = s.pedalUnit := by
  induction ks generalizing s with
  | nil => rfl
  | cons k ks ih =>
    have hrequest : (releaseRequest k s).pedalUnit = s.pedalUnit := by
      unfold releaseRequest
      split
      · exact attemptNoteOff_pedalUnit s k
      · rfl
    exact (ih _).trans hrequest

/-- The keys a release names, as R52 and R53 describe them. -/
theorem heldAtRest_eq (members : Bool) (s : State) : heldAtRest members s = (List.finRange 88).filter (fun k =>
    decide ((s.key k).note = .held ∧ (s.key k).motion = .rest ∧ (s.key k).member = members)) := by
  simp only [heldAtRest, allKeys, Bool.decide_and, Bool.and_assoc, Bool.beq_eq_decide_eq]

theorem heldAtRest_nodup (members : Bool) (s : State) : (heldAtRest members s).Nodup :=
  (List.nodup_finRange 88).filter _

theorem held_of_mem_heldAtRest {members : Bool} {s : State} {k : KeyIdx} (h : k ∈ heldAtRest members s) :
    (s.key k).note = .held := by
  rw [heldAtRest_eq, List.mem_filter] at h
  exact (of_decide_eq_true h.2).1

/-- The keys named by a release are released. -/
theorem releaseKeys_heldAtRest_released (members : Bool) (s : State) :
    released (heldAtRest members s) false s (releaseKeys (heldAtRest members s) s) :=
  releaseKeys_released (heldAtRest_nodup members s) (fun _ => held_of_mem_heldAtRest)

/-- Emptying the sostenuto set after a release clears every key's mark. -/
theorem released_clearSostenuto {ks : List KeyIdx} {s t : State} (h : released ks false s t) :
    released ks true s (clearSostenuto t) := by
  obtain ⟨hother, hroom, hfull⟩ := h
  refine ⟨fun k hk => ?_, fun hlen => ⟨fun k hk => ?_, (hroom hlen).2⟩,
    fun hlen hne => ⟨fun k hk => ?_, (hfull hlen hne).2⟩⟩
  · rw [clearSostenuto_key, hother k hk]; rfl
  · rw [clearSostenuto_key, (hroom hlen).1 k hk]; rfl
  · rw [clearSostenuto_key, (hfull hlen hne).1 k hk]; rfl

/-- Step 3 gives the damper its engage state. -/
theorem updateDamper_pedalUnit (s : State) : (updateDamper s).pedalUnit =
    { s.pedalUnit with damper := engageAfter s.pedalUnit.damper (s.pedal 0).value } := by
  rw [updateDamper, engageOf_eq]
  dsimp only
  split
  · exact releaseKeys_pedalUnit _ _
  · rfl

/-- Step 3 releases the HELD keys at REST that are no members, where the damper has become RELEASED. -/
theorem updateDamper_released (s : State) :
    released (if s.pedalUnit.damper = .engaged ∧ engageAfter s.pedalUnit.damper (s.pedal 0).value = .released then
      heldAtRest false s else []) false s (updateDamper s) := by
  rw [updateDamper, engageOf_eq]
  dsimp only
  split
  · exact releaseKeys_heldAtRest_released false
      { s with pedalUnit := { s.pedalUnit with damper := engageAfter s.pedalUnit.damper (s.pedal 0).value } }
  · exact released_nil s

theorem sostenutoRelease_pedalUnit (s : State) : (sostenutoRelease s).pedalUnit = s.pedalUnit := by
  change (if s.pedalUnit.damper = .released then releaseKeys (heldAtRest true s) s else s).pedalUnit = _
  split
  · exact releaseKeys_pedalUnit _ s
  · rfl

/-- With the damper RELEASED the sostenuto release releases the HELD members at REST; in either case the set is emptied. -/
theorem sostenutoRelease_released (s : State) :
    released (if s.pedalUnit.damper = .released then heldAtRest true s else []) true s (sostenutoRelease s) := by
  rw [sostenutoRelease]
  refine released_clearSostenuto ?_
  split
  · exact releaseKeys_heldAtRest_released true s
  · exact released_nil s

/-! ## The steps of a taken frame (R43) -/

/-- The last step releases the sostenuto where its pedal has fallen at step 2, as its value and its state before tell. -/
theorem pedalSamples_eq (words : List ScanWord) (s : State) :
    let one := takePedal (sampleAt words 90) 2 (takePedal (sampleAt words 89) 1 (takePedal (sampleAt words 88) 0 s))
    let three := updateDamper (updateSostenuto one)
    pedalSamples words s =
      if one.pedalUnit.sostenuto = .engaged ∧ (one.pedal 1).value < 48 then sostenutoRelease three else three := by
  intro one three
  have hfall : one.pedalUnit.sostenuto = .engaged ∧ (updateSostenuto one).pedalUnit.sostenuto = .released ↔
      one.pedalUnit.sostenuto = .engaged ∧ (one.pedal 1).value < 48 := by
    rw [updateSostenuto_pedalUnit]
    exact engageAfter_fall_iff _ _
  exact if_congr hfall rfl rfl

/-- Settles O14: the attempt of a pedal by admission or refusal, the sample by fault or good value, and each step of a taken
frame by its lemma; the releases go by induction on the keys named. -/
theorem duePedalSendsItsEvent : Obligations.DuePedalSendsItsEvent := by
  refine ⟨fun p s => ⟨fun hdue h0 => ?retry, fun hdue h1 => ?expiry, fun hdue h1 => ?notDue⟩,
    fun raw r => ⟨fun hfault => pedalSample_fault hfault r, fun h1 h2 => pedalSample_good h1 h2 r⟩,
    fun s => ⟨updateSostenuto_pedalUnit s, updateSostenuto_key s, updateSostenuto_frame s⟩,
    fun s _ => ?releases, pedalSamples_eq⟩
  case retry =>
    rw [exec_pedalEventRetry hdue h0]
    exact ⟨fun hroom => by rw [attemptPedal_admitted hroom], fun hfull => by rw [attemptPedal_refused hfull]⟩
  case expiry =>
    rw [exec_pedalIntervalExpiry_due hdue h1]
    refine ⟨fun hroom => ?_, fun hfull => ?_⟩
    · have hstill : (s.setPedal p { s.pedal p with interval := 0 }).queue.records.length ≤ 95 := hroom
      rw [attemptPedal_admitted hstill, pedal_setPedal_self]
    · have hstill : 96 ≤ (s.setPedal p { s.pedal p with interval := 0 }).queue.records.length := hfull
      rw [attemptPedal_refused hstill]
      rfl
  case notDue => exact exec_pedalIntervalExpiry_notDue hdue h1
  case releases =>
    have hdamper := updateDamper_released s
    have hsostenuto := sostenutoRelease_released s
    rw [heldAtRest_eq] at hdamper hsostenuto
    exact ⟨updateDamper_pedalUnit s, hdamper, sostenutoRelease_pedalUnit s, hsostenuto⟩

/-! ## PEDAL_CAL_WRITE (R55) -/

/-- The body of a PEDAL_CAL_WRITE (R55). -/
abbrev pedalBody (p : PedalIdx) (rest bottom : Nat) (deadband : Byte) (map : List Byte) : List Byte :=
  leBytes 1 p.val ++ leBytes 2 rest ++ leBytes 2 bottom ++ [deadband] ++ map

/-- The places of a list read one after the other give the list back. -/
theorem range_map_getD {α : Type} (l : List α) (d : α) : (List.range l.length).map (fun i => l.getD i d) = l :=
  List.ext_getElem (by simp) fun i _ hi => by simp [hi]

/-- The numbers of the places that hold a byte of a kind are as many as such bytes. -/
theorem range_filter_getD_length {α : Type} (q : α → Bool) (l : List α) (d : α) :
    ((List.range l.length).filter (fun i => q (l.getD i d))).length = (l.filter q).length := by
  conv_rhs => rw [← range_map_getD l d, List.filter_map, List.length_map]
  rfl

section PedalBody

variable {p : PedalIdx} {rest bottom : Nat} {deadband : Byte} {map : List Byte}

theorem pedalBody_length (hmap : map.length = 17) : (pedalBody p rest bottom deadband map).length = 23 := by
  simp [leBytes_length, hmap]

/-- The body gives the pedal, the rest, the bottom and the deadband back. -/
theorem pedalBody_fields (hr : rest < 65536) (hb : bottom < 65536) :
    pedalOf (u8At (pedalBody p rest bottom deadband map) 0) = some p ∧
      u16At (pedalBody p rest bottom deadband map) 1 = rest ∧ u16At (pedalBody p rest bottom deadband map) 3 = bottom ∧
      u8At (pedalBody p rest bottom deadband map) 5 = deadband.toNat :=
  ⟨by fin_cases p <;> rfl, StrikeVelocity.u16_of_bytes hr, StrikeVelocity.u16_of_bytes hb, rfl⟩

/-- The body's last 17 fields are the map points. -/
theorem pedalBody_point (i : Nat) : u8At (pedalBody p rest bottom deadband map) (6 + i) = (map.getD i 0).toNat := by
  rw [Nat.add_comm]
  rfl

/-- The calibration part stored: the rest and the bottom as written, the deadband and the map points limited. -/
theorem pedalCalOfBody_fields (hr : rest < 65536) (hb : bottom < 65536) (hmap : map.length = 17) :
    let c := pedalCalOfBody (pedalBody p rest bottom deadband map)
    c.rest = rest ∧ c.bottom = bottom ∧ c.deadband = min 16 deadband.toNat ∧
      c.map.toList = map.map (fun y => min 127 y.toNat) := by
  obtain ⟨-, hrest, hbottom, hdead⟩ := pedalBody_fields (p := p) (deadband := deadband) (map := map) hr hb
  refine ⟨hrest, hbottom, ?_, ?_⟩
  · rw [pedalCalOfBody, hdead, StrikeVelocity.clampNat_zero]
  · calc (pedalCalOfBody (pedalBody p rest bottom deadband map)).map.toList
        = (List.range map.length).map (fun i => min 127 (map.getD i 0).toNat) := by
          simp only [pedalCalOfBody, vecOf, pedalBody_point, StrikeVelocity.clampNat_zero, hmap, Vector.toList_mk]
      _ = map.map (fun y => min 127 y.toNat) := by
          conv_rhs => rw [← range_map_getD map 0, List.map_map]
          rfl

/-- The clamped fields are the deadband where it is above 16, and the map points above 127. -/
theorem pedalCalClamps_eq (hmap : map.length = 17) : pedalCalClamps (pedalBody p rest bottom deadband map) =
    (if 16 < deadband.toNat then 1 else 0) + (map.filter (fun y => decide (127 < y.toNat))).length := by
  rw [← range_filter_getD_length _ map 0, hmap]
  simp only [pedalCalClamps, pedalBody_point]
  rfl

theorem spanOk_iff (rest bottom : Nat) :
    spanOk rest bottom = true ↔ rest ≤ 4095 ∧ bottom ≤ 4095 ∧ 128 ≤ distance bottom rest := by
  simp [spanOk, and_assoc]

theorem pedalCalWriteOp_badValue (hr : rest < 65536) (hb : bottom < 65536) (hmap : map.length = 17)
    (h : spanOk rest bottom = false) (s : State) :
    pedalCalWriteOp (pedalBody p rest bottom deadband map) s = (s, .err .badValue) := by
  obtain ⟨hpedal, -, -, -⟩ := pedalBody_fields (p := p) (deadband := deadband) (map := map) hr hb
  obtain ⟨hrest, hbottom, -, -⟩ := pedalCalOfBody_fields (p := p) (deadband := deadband) hr hb hmap
  rw [pedalCalWriteOp, if_neg (not_not.2 (pedalBody_length hmap)), hpedal]
  dsimp only
  rw [hrest, hbottom, if_pos h]

theorem pedalCalWriteOp_stored (hr : rest < 65536) (hb : bottom < 65536) (hmap : map.length = 17)
    (h : spanOk rest bottom = true) (s : State) :
    pedalCalWriteOp (pedalBody p rest bottom deadband map) s =
      (s.setPedal p { s.pedal p with cal := pedalCalOfBody (pedalBody p rest bottom deadband map) },
        .ok (leBytes 1 p.val ++ leBytes 2 rest ++ leBytes 2 bottom ++ leBytes 1 (min 16 deadband.toNat) ++
          map.map (fun y => BitVec.ofNat 8 (min 127 y.toNat)) ++ leBytes 1 ((if 16 < deadband.toNat then 1 else 0) +
            (map.filter (fun y => decide (127 < y.toNat))).length))) := by
  obtain ⟨hpedal, -, -, -⟩ := pedalBody_fields (p := p) (deadband := deadband) (map := map) hr hb
  obtain ⟨hrest, hbottom, hdead, hpoints⟩ := pedalCalOfBody_fields (p := p) (deadband := deadband) hr hb hmap
  have hspan : ¬ spanOk rest bottom = false := by simp [h]
  rw [pedalCalWriteOp, if_neg (not_not.2 (pedalBody_length hmap)), hpedal]
  dsimp only
  rw [pedalCalBytes, pedalCalClamps_eq hmap, hrest, hbottom, hdead, hpoints, if_neg hspan, List.flatMap_map]
  simp [leBytes, List.map_eq_flatMap]

end PedalBody

/-- PEDAL_CAL_WRITE in an open window leaves what its operation leaves, and one reply. -/
theorem exec_pedalCalWrite {tag : Byte} {body : List Byte} {s t : State} {r : MsgResult} (h : windowOpen s = true)
    (hop : pedalCalWriteOp body s = (t, r)) : exec (.pedalCalWrite tag body) s = .next (appendReply 0x18 tag r t) :=
  StrikeVelocity.completed h hop

/-- Settles O25: the refused span and the stored part are the two outcomes of a body of full length; the stored part is read
back from the body field by field. -/
theorem pedalCalWriteStores : Obligations.PedalCalWriteStores := by
  intro tag p rest bottom deadband map s hw hr hb hmap i pass
  refine ⟨fun hbad => ?badValue, fun hpass => ?stored⟩
  case badValue =>
    have hspan : spanOk rest bottom = false := Bool.eq_false_iff.2 (mt (spanOk_iff rest bottom).1 hbad)
    exact exec_pedalCalWrite hw (pedalCalWriteOp_badValue hr hb hmap hspan s)
  case stored =>
    have hspan : spanOk rest bottom = true := (spanOk_iff rest bottom).2 hpass
    obtain ⟨hrest, hbottom, hdead, hpoints⟩ := pedalCalOfBody_fields (p := p) (deadband := deadband) hr hb hmap
    refine ⟨_, exec_pedalCalWrite hw (pedalCalWriteOp_stored hr hb hmap hspan s), ?_⟩
    have hself (r : MsgResult) (q : PedalRecord) : (appendReply 0x18 tag r (s.setPedal p q)).pedal p = q :=
      pedal_setPedal_self s p q
    rw [hself]
    exact ⟨rfl, hrest, hbottom, hdead, hpoints, fun q hq => pedal_setPedal_ne s p q _ hq, rfl, rfl⟩

end Sys2Proof.Proofs.Pedals

/-! PROOFS. Chapter 04: the Calibration Unit (R58 to R71) and the Settings Store (R72 to R76), and the state right after reset.
First what a change of the whole Key Table does to one record, then for each command one equation per case of its work, then the
statements. -/

namespace Sys2Proof.Proofs.Calibration

open Sys2Proof.Machine
open Sys2Proof.Proofs.StrikeVelocity (completed u16_of_bytes)
open Sys2Proof.Proofs.Pedals (mapVec_getElem spanOk_iff)

/-! ## The Key Table -/

theorem key_updateKeys (f : KeyIdx → KeyRecord → KeyRecord) (s : State) (k : KeyIdx) :
    (updateKeys f s).key k = f k (s.key k) := by
  simp [State.key, updateKeys, allKeys]

/-! ## The rest of an AUTO key (R62, R63) -/

theorem isFaultRaw_good {raw : Nat} (h1 : 1 ≤ raw) (h2 : raw ≤ 4094) : isFaultRaw raw = false := by
  simp only [isFaultRaw, Bool.or_eq_false_iff, beq_eq_false_iff_ne]; omega

/-- The amount a rest moves toward a raw value at this difference: a sixteenth, at least 1 (R63). -/
abbrev restMove (diff : Int) : Int :=
  if diff.tdiv 16 ≠ 0 then diff.tdiv 16 else if 0 < diff then 1 else -1

/-- The rest a step leads to, within the bounds (R63). -/
abbrev restCandidate (c : KeyCal) (raw : Nat) : Nat :=
  (clampInt c.restLo c.restHi (c.rest + restMove ((raw : Int) - c.rest))).toNat

/-- A rest step goes to the candidate, unless there is no difference or the span would fall below 128. -/
theorem restAfterStep_eq (c : KeyCal) (raw : Nat) : restAfterStep c raw =
    if (raw : Int) - c.rest = 0 ∨ distance c.bottom (restCandidate c raw) < 128 then c.rest else restCandidate c raw := by
  have hzero : raw = c.rest ↔ (raw : Int) - c.rest = 0 := by omega
  simp only [restAfterStep, restCandidate, restMove, hzero, ite_not, ite_or]

theorem qualifies_iff (r : KeyRecord) :
    qualifies r = true ↔ r.motion = .rest ∧ r.note = .idle ∧ ∀ sum n, r.job ≠ .counting sum n := by
  cases hjob : r.job <;> simp [qualifies, hjob]

/-- The 800th steady sample steps the rest, and the stability state goes back. -/
theorem trackRest_step {r : KeyRecord} {raw ref : Nat} (hq : qualifies r = true) (href : r.stabRef = some ref)
    (hsteady : distance raw ref ≤ 8) (hcount : r.stabCount = 799) :
    trackRest raw r = { r with cal := { r.cal with rest := restAfterStep r.cal raw }, stabRef := none, stabCount := 0 } := by
  rw [trackRest, if_pos hq, href]
  dsimp only
  rw [if_pos hsteady, if_pos (by omega)]

/-- A sample that does not qualify sets the stability state back. -/
theorem trackRest_unqualified {r : KeyRecord} (h : qualifies r = false) (raw : Nat) :
    trackRest raw r = { r with stabRef := none, stabCount := 0 } := by
  rw [trackRest, if_neg (by simp [h])]

/-- REST_STEP where it is due: the record after the steady sample. -/
theorem exec_restStep {k : KeyIdx} {raw ref : Nat} {s : State} (hmode : (s.key k).cal.mode = .auto)
    (hon : (s.key k).cal.enabled = true) (hq : qualifies (s.key k) = true) (hcount : (s.key k).stabCount = 799)
    (href : (s.key k).stabRef = some ref) (hsteady : distance raw ref ≤ 8) (hraw : isFaultRaw raw = false) :
    exec (.restStep k raw) s = .next (s.setKey k (trackRest raw (s.key k))) := by
  simp [exec, execRestStep, hmode, hon, hq, hcount, href, hsteady, hraw]

/-! ## The calibration job of a key (R66) -/

/-- The 64th good sample at rest makes the average the rest where the span allows it. -/
theorem jobSample_done {r : KeyRecord} {sum raw : Nat} (hjob : r.job = .counting sum 63) (hm : r.motion = .rest)
    (hn : r.note = .idle) (hspan : 128 ≤ distance r.cal.bottom ((sum + raw) / 64)) :
    jobSample raw r =
      { r with cal := { r.cal with rest := (sum + raw) / 64 }, job := .done, stabRef := none, stabCount := 0 } := by
  simp [jobSample, hjob, hm, hn, hspan]

/-- The 64th good sample at rest drops the key where the span would fall below 128. -/
theorem jobSample_dropped {r : KeyRecord} {sum raw : Nat} (hjob : r.job = .counting sum 63) (hm : r.motion = .rest)
    (hn : r.note = .idle) (hspan : distance r.cal.bottom ((sum + raw) / 64) < 128) :
    jobSample raw r = { r with job := .dropped, stabRef := none, stabCount := 0 } := by
  simp [jobSample, hjob, hm, hn, Nat.not_le.2 hspan]

/-- A counting key that leaves REST counts anew. -/
theorem jobSample_moving {r : KeyRecord} (hm : r.motion ≠ .rest) (raw : Nat) :
    jobSample raw r = { r with job := match r.job with | .counting _ _ => .counting 0 0 | j => j } := by
  obtain ⟨_, _, _, job, motion, _⟩ := r
  cases job with
  | counting sum n => exact if_neg fun hrest => hm hrest.1
  | notListed | done | dropped => rfl

/-- CAL_KEY_COMPLETE where it is due: the record after the 64th good sample. -/
theorem exec_calKeyComplete {k : KeyIdx} {raw sum : Nat} {s : State} (hon : (s.key k).cal.enabled = true)
    (hm : (s.key k).motion = .rest) (hn : (s.key k).note = .idle) (hjob : (s.key k).job = .counting sum 63)
    (hraw : isFaultRaw raw = false) :
    exec (.calKeyComplete k raw) s = .next (s.setKey k (jobSample raw (s.key k))) := by
  simp [exec, execCalKeyComplete, hon, hm, hn, hjob, hraw]

/-! ## The bottom of a sounding AUTO key (R64) -/

/-- The bottom after a good sample in SOUNDING: outward by a sixteenth of a difference above 16. -/
abbrev movedBottom (c : KeyCal) (raw : Nat) : Nat :=
  if c.rest < c.bottom then (if c.bottom + 16 < raw then c.bottom + (raw - c.bottom) / 16 else c.bottom)
  else (if raw + 16 < c.bottom then c.bottom - (c.bottom - raw) / 16 else c.bottom)

theorem trackBottom_sounding {r : KeyRecord} (h : r.motion = .sounding) (raw : Nat) :
    trackBottom raw r = { r with cal := { r.cal with bottom := movedBottom r.cal raw } } := by
  simp only [trackBottom, movedBottom, if_pos h]
  split_ifs <;> rfl

/-- Auto tracking in SOUNDING: the bottom is moved, and the stability state goes back. -/
theorem autoTrack_sounding {r : KeyRecord} (hmode : r.cal.mode = .auto) (h : r.motion = .sounding) (raw : Nat) :
    autoTrack raw r =
      { r with cal := { r.cal with bottom := movedBottom r.cal raw }, stabRef := none, stabCount := 0 } := by
  have hq : qualifies r = false := by simp [qualifies, h]
  rw [autoTrack, hmode]
  dsimp only
  rw [trackRest_unqualified hq]
  exact trackBottom_sounding (by exact h) raw

/-- A key's record with the depth and frame of a good sample, its fault run back at 0 (R8). -/
abbrev sampled (r : KeyRecord) (frame : FrameNo) (dc : Nat) : KeyRecord :=
  { r with depth := dc, lastFrame := some frame, faultRun := 0 }

theorem settleSample_eq (k : KeyIdx) (raw dc : Nat) (s : State) : settleSample k raw dc s =
    s.setKey k (jobSample raw (autoTrack raw (sampled (s.key k) s.clock.frame dc))) := rfl

/-- The settling of a sample of an AUTO key in SOUNDING. -/
theorem settleSample_sounding {k : KeyIdx} {s : State} (hmode : (s.key k).cal.mode = .auto)
    (h : (s.key k).motion = .sounding) (raw dc : Nat) :
    settleSample k raw dc s = s.setKey k { s.key k with
      cal := { (s.key k).cal with bottom := movedBottom (s.key k).cal raw }, stabRef := none, stabCount := 0
      depth := dc, lastFrame := some s.clock.frame, faultRun := 0
      job := match (s.key k).job with | .counting _ _ => .counting 0 0 | j => j } := by
  rw [settleSample_eq, autoTrack_sounding (r := sampled (s.key k) s.clock.frame dc) hmode h,
    jobSample_moving (by simp [h])]

/-- A good sample at or beyond the rearm line leaves a sounding key in SOUNDING, and is settled. -/
theorem keySample_stillSounding {k : KeyIdx} {raw : Nat} {np : FrameNo} {s : State} (hon : (s.key k).cal.enabled = true)
    (hm : (s.key k).motion = .sounding) (hlast : (s.key k).lastFrame = some np) (hraw : isFaultRaw raw = false)
    (hdeep : (s.key k).cal.tRearm ≤ normalise (s.key k).cal.rest (s.key k).cal.bottom raw) :
    keySample k raw s = settleSample k raw (normalise (s.key k).cal.rest (s.key k).cal.bottom raw) s := by
  simp [keySample, goodSample, motionStep, hon, hm, hlast, hraw, Nat.not_lt.2 hdeep]

/-- Settles O15: the rest by `restAfterStep_eq`, the average by the two outcomes of the 64th sample, the bottom by what auto
tracking and the job make of a sample that leaves the key in SOUNDING. -/
theorem restIsSteppedOrAveraged : Obligations.RestIsSteppedOrAveraged := by
  refine ⟨?step, ?average, ?bottom⟩
  case step =>
    intro k raw ref s hmode hon hm hn hjob hcount href hsteady h1 h2 c diff step candidate
    have hq : qualifies (s.key k) = true := (qualifies_iff _).2 ⟨hm, hn, hjob⟩
    rw [exec_restStep hmode hon hq hcount href hsteady (isFaultRaw_good h1 h2), trackRest_step hq href hsteady hcount,
      restAfterStep_eq]
  case average =>
    intro k raw sum s hon hm hn hjob h1 h2 avg
    rw [exec_calKeyComplete hon hm hn hjob (isFaultRaw_good h1 h2)]
    exact ⟨fun hspan => by rw [jobSample_done hjob hm hn hspan], fun hspan => by rw [jobSample_dropped hjob hm hn hspan]⟩
  case bottom =>
    intro k raw np s hon hmode hm hlast h1 h2 c d bottom hdeep
    rw [keySample_stillSounding hon hm hlast (isFaultRaw_good h1 h2) hdeep]
    exact settleSample_sounding hmode hm raw _

/-! ## CALIBRATE_REST (R65) and CAL_JOB_TIMEOUT (R67) -/

/-- Whether a number lies in a range. -/
abbrev inRange (first last n : Nat) : Bool := decide (first ≤ n) && decide (n ≤ last)

/-- The keys of a range within the Key Table are as many as its numbers. -/
theorem keysInRange_length {first last : Nat} (h : last ≤ 87) :
    ((List.finRange 88).filter (fun k => inRange first last k.val)).length = last + 1 - first := by
  have hperm : ((List.range 88).filter (inRange first last)).Perm (List.range' first (last + 1 - first)) :=
    (List.perm_ext_iff_of_nodup (List.nodup_range.filter _) List.nodup_range').2 fun n => by
      simp only [List.mem_filter, List.mem_range, List.mem_range'_1, Bool.and_eq_true, decide_eq_true_eq]
      omega
  calc ((List.finRange 88).filter (inRange first last ∘ Fin.val)).length
      = ((List.range 88).filter (inRange first last)).length := by
        rw [← List.map_coe_finRange_eq_range, List.filter_map, List.length_map]
    _ = last + 1 - first := by rw [hperm.length_eq, List.length_range']

/-- What is not picked out of a list's part is the rest of that part. -/
theorem filter_split_length {α : Type} (p q : α → Bool) (l : List α) :
    (l.filter (fun a => p a && !q a)).length = (l.filter p).length - (l.filter (fun a => p a && q a)).length := by
  have hsplit := (l.filter p).length_eq_length_filter_add q
  simp only [List.filter_filter, Bool.and_comm _ (p _)] at hsplit
  omega

/-- A key takes part in a job over its range where it is enabled and not in FAULT (R65). -/
abbrev takesPart (r : KeyRecord) : Bool := r.cal.enabled && decide (r.motion ≠ .fault)

theorem listForJob_eq (first last : Nat) (k : KeyIdx) (r : KeyRecord) : listForJob first last k r =
    if inRange first last k.val = true then
      (if takesPart r = true then { r with job := .counting 0 0, stabRef := none, stabCount := 0 }
       else { r with job := .dropped })
    else { r with job := .notListed } := by
  simp only [listForJob, Bool.and_eq_true, decide_eq_true_eq]

/-- The keys counting after a job was accepted are those of its range that take part. -/
theorem isCounting_listForJob (first last : Nat) (k : KeyIdx) (r : KeyRecord) :
    isCounting (listForJob first last k r) = (inRange first last k.val && takesPart r) := by
  rw [listForJob_eq]
  cases inRange first last k.val <;> cases takesPart r <;> rfl

/-- The state an accepted job leaves (R65). -/
def jobStarted (first last : Nat) (s : State) : State :=
  { updateKeys (listForJob first last) s with
    cal := { s.cal with running := true, first := first, last := last, frames := 0 } }

theorem key_jobStarted (first last : Nat) (s : State) (k : KeyIdx) :
    (jobStarted first last s).key k = listForJob first last k (s.key k) := key_updateKeys _ s k

theorem countingKeys_jobStarted (first last : Nat) (s : State) : countingKeys (jobStarted first last s) =
    ((List.finRange 88).filter (fun k => inRange first last k.val && takesPart (s.key k))).length := by
  simp only [countingKeys, key_jobStarted, isCounting_listForJob, allKeys]

/-- CALIBRATE_REST in an open window leaves what its operation leaves, and one reply. -/
theorem exec_calibrateRest {tag : Byte} {body : List Byte} {s t : State} {r : MsgResult} (h : windowOpen s = true)
    (hop : calibrateRestOp body s = (t, r)) : exec (.calibrateRest tag body) s = .next (appendReply 0x20 tag r t) :=
  completed h hop

section CalibrateRest

variable {first last : Byte} {s : State}

theorem calibrateRestOp_badValue (h : ¬ (first.toNat ≤ last.toNat ∧ last.toNat ≤ 87)) :
    calibrateRestOp [first, last] s = (s, .err .badValue) := by
  have hbad : 87 < first.toNat ∨ 87 < last.toNat ∨ last.toNat < first.toNat := by omega
  exact if_pos hbad

theorem calibrateRestOp_running (h : first.toNat ≤ last.toNat ∧ last.toNat ≤ 87) (hrun : s.cal.running = true) :
    calibrateRestOp [first, last] s = (s, .err .wrongState) := by
  have hgood : ¬ (87 < first.toNat ∨ 87 < last.toNat ∨ last.toNat < first.toNat) := by omega
  exact (if_neg hgood).trans (if_pos hrun)

theorem calibrateRestOp_started (h : first.toNat ≤ last.toNat ∧ last.toNat ≤ 87) (hrun : s.cal.running = false) :
    calibrateRestOp [first, last] s = (jobStarted first.toNat last.toNat s,
      .ok (leBytes 1 (countingKeys (jobStarted first.toNat last.toNat s)) ++
        leBytes 1 (last.toNat + 1 - first.toNat - countingKeys (jobStarted first.toNat last.toNat s)))) := by
  have hgood : ¬ (87 < first.toNat ∨ 87 < last.toNat ∨ last.toNat < first.toNat) := by omega
  exact (if_neg hgood).trans (if_neg (by simp [hrun]))

end CalibrateRest

/-- The state the end of a job leaves but for its notice (R67). -/
def jobEnded (s : State) : State :=
  updateKeys (fun _ r => endForJob r) { s with cal := { s.cal with running := false, frames := 4000 } }

/-- A notice raised in a state is queued there as in any other of the same clock and Message Unit. -/
theorem raiseNotice_msg_congr {s t : State} (kind : NoticeKind) (data : List Byte) (hmsg : t.msg = s.msg)
    (hclock : t.clock = s.clock) : (raiseNotice kind data t).msg = (raiseNotice kind data s).msg := by
  unfold raiseNotice
  rw [hmsg, hclock]
  split <;> rfl

/-- A notice changes the Message Unit only. -/
theorem raiseNotice_frame (kind : NoticeKind) (data : List Byte) (s : State) :
    raiseNotice kind data s = { s with msg := (raiseNotice kind data s).msg } := by
  unfold raiseNotice; split <;> rfl

/-- The tick that brings the frame count to 4000 ends the job with its notice. -/
theorem exec_calJobTimeout {s : State} (hrun : s.cal.running = true) (hframes : s.cal.frames = 3999) :
    exec .calJobTimeout s = .next (raiseNotice .calDone (leBytes 1 s.cal.first ++ leBytes 1 s.cal.last ++
      leBytes 1 (doneKeys s) ++ leBytes 1 (s.cal.last + 1 - s.cal.first - doneKeys s)) (jobEnded s)) := by
  have hdue : s.cal.running = true ∧ s.cal.frames + 1 = 4000 := ⟨hrun, by omega⟩
  have hend : calJobTick s = endJob { s with cal := { s.cal with frames := 4000 } } := by
    simp [calJobTick, hrun, hframes]
  simp only [exec, execCalJobTimeout, if_pos hdue, hend]
  rfl

/-- Settles O16: the three outcomes of the message, with the keys of the range counted; and the end of the job, its notice
raised on the job's own records. -/
theorem theRestJobStartsAndTimesOut : Obligations.TheRestJobStartsAndTimesOut := by
  refine ⟨fun tag first last s hw => ?starts, fun s hrun hframes => ?timesOut⟩
  case starts =>
    intro body rangeOk listed counts
    refine ⟨fun hbad => exec_calibrateRest hw (calibrateRestOp_badValue hbad),
      fun hok hrun => exec_calibrateRest hw (calibrateRestOp_running hok hrun),
      fun hok hrun => ⟨_, exec_calibrateRest hw (calibrateRestOp_started hok hrun), rfl, fun k => ?_, ?_, rfl⟩⟩
    · exact (key_jobStarted _ _ s k).trans (listForJob_eq _ _ k _)
    · have hcount : countingKeys (jobStarted first.toNat last.toNat s) =
          ((List.finRange 88).filter (fun k => listed k && counts k)).length := countingKeys_jobStarted _ _ s
      have hrest : last.toNat + 1 - first.toNat - countingKeys (jobStarted first.toNat last.toNat s) =
          ((List.finRange 88).filter (fun k => listed k && !counts k)).length := by
        rw [filter_split_length listed counts, hcount, keysInRange_length hok.2]
      rw [hrest, hcount]
      rfl
  case timesOut =>
    intro done
    refine ⟨_, exec_calJobTimeout hrun hframes, ?_, fun k => ?_, ?_, ?_⟩
    · exact raiseNotice_cal _ _ _
    · have hkey : (jobEnded s).key k = endForJob (s.key k) := key_updateKeys _ _ k
      rw [State.key, raiseNotice_tracker]
      exact hkey
    · exact raiseNotice_msg_congr _ _ rfl rfl
    · rw [raiseNotice_frame]
      rfl

/-! ## FAULT_LIST_READ (R71) -/

theorem unlistedFaults_eq (s : State) : unlistedFaults s = Sys2Proof.Claims.unlisted s := by
  simp [unlistedFaults, Sys2Proof.Claims.unlisted, allKeys]

/-- FAULT_LIST_READ in an open window leaves what its operation leaves, and one reply. -/
theorem exec_faultListRead {tag : Byte} {body : List Byte} {s t : State} {r : MsgResult} (h : windowOpen s = true)
    (hop : faultListReadOp body s = (t, r)) : exec (.faultListRead tag body) s = .next (appendReply 0x21 tag r t) :=
  completed h hop

theorem faultListReadOp_badLength {body : List Byte} (h : body ≠ []) (s : State) :
    faultListReadOp body s = (s, .err .badLength) := by
  have hlen : body.length ≠ 0 := mt List.length_eq_zero_iff.1 h
  rw [faultListReadOp, if_pos hlen]

theorem faultListReadOp_ok (s : State) : faultListReadOp [] s = (s, .ok (leBytes 1 s.cal.faultList.length ++
    s.cal.faultList.flatMap (fun k => leBytes 1 k.val) ++ boolByte s.cal.overflow ++
    leBytes 1 (Sys2Proof.Claims.unlisted s))) := by
  rw [← unlistedFaults_eq]; rfl

/-- Settles O18: one case of the message per clause. -/
theorem faultListReadReturnsTheList : Obligations.FaultListReadReturnsTheList := by
  intro tag body s hw
  exact ⟨fun hlen => exec_faultListRead hw (faultListReadOp_badLength hlen s),
    exec_faultListRead hw (faultListReadOp_ok s)⟩

/-! ## FAULT_CLEAR (R70) -/

/-- The record of a FAULT key returned to service (R70). -/
abbrev returned (r : KeyRecord) : KeyRecord :=
  { r with motion := .rest, lastFrame := none, faultRun := 0, stabRef := none, stabCount := 0 }

/-- Whether a clear of key `k` returns key `j` to service: it is that key, in FAULT. -/
def clearsOne (k : KeyIdx) (s : State) (j : KeyIdx) : Bool := decide (j = k) && decide ((s.key j).motion = .fault)

/-- Whether a clear of the keys `ks` returns key `j` to service: it is one of them, in FAULT. -/
def clears (ks : List KeyIdx) (s : State) (j : KeyIdx) : Bool := decide (j ∈ ks) && decide ((s.key j).motion = .fault)

/-- The keys cleared one after the other (R70). -/
def clearEach (ks : List KeyIdx) (s : State) : State := ks.foldl (fun t k => clearFault k t) s

theorem clearEach_cons (k : KeyIdx) (ks : List KeyIdx) (s : State) :
    clearEach (k :: ks) s = clearEach ks (clearFault k s) := rfl

theorem key_clearFault (k : KeyIdx) (s : State) (j : KeyIdx) :
    (clearFault k s).key j = if clearsOne k s j then returned (s.key j) else s.key j := by
  unfold clearFault clearsOne
  by_cases hj : j = k
  · subst hj
    by_cases hfault : (s.key j).motion = .fault
    · rw [if_pos hfault, if_pos (by simp [hfault])]
      exact key_setKey_self s j _
    · simp [hfault]
  · rw [decide_eq_false hj, Bool.false_and]
    split
    · exact key_setKey_ne s k j _ hj
    · rfl

theorem faultList_clearFault (k : KeyIdx) (s : State) :
    (clearFault k s).cal.faultList = s.cal.faultList.filter (fun j => !clearsOne k s j) := by
  unfold clearFault clearsOne
  split
  case isTrue hfault => exact List.filter_congr fun j _ => by by_cases hj : j = k <;> simp [hj, hfault]
  case isFalse hfault => exact (List.filter_eq_self.2 fun j _ => by by_cases hj : j = k <;> simp [hj, hfault]).symm

theorem clears_cons (k : KeyIdx) (ks : List KeyIdx) (s : State) (j : KeyIdx) :
    clears (k :: ks) s j = (clearsOne k s j || clears ks s j) := by
  simp only [clears, clearsOne, List.mem_cons, Bool.decide_or, Bool.and_or_distrib_right]

/-- What a clear of one key leaves the others to clear. -/
theorem clears_clearFault (k : KeyIdx) (ks : List KeyIdx) (s : State) (j : KeyIdx) :
    clears ks (clearFault k s) j = (clears ks s j && !clearsOne k s j) := by
  rw [clears, key_clearFault, clears]
  cases hone : clearsOne k s j with
  | true => simp
  | false => simp

theorem key_clearEach (ks : List KeyIdx) (s : State) (j : KeyIdx) :
    (clearEach ks s).key j = if clears ks s j then returned (s.key j) else s.key j := by
  induction ks generalizing s with
  | nil => rfl
  | cons k ks ih =>
    rw [clearEach_cons, ih, clears_clearFault, clears_cons, key_clearFault]
    cases clearsOne k s j <;> cases clears ks s j <;> rfl

theorem faultList_clearEach (ks : List KeyIdx) (s : State) :
    (clearEach ks s).cal.faultList = s.cal.faultList.filter (fun j => !clears ks s j) := by
  induction ks generalizing s with
  | nil => exact (List.filter_eq_self.2 fun _ _ => rfl).symm
  | cons k ks ih =>
    rw [clearEach_cons, ih, faultList_clearFault, List.filter_filter]
    refine List.filter_congr fun j _ => ?_
    rw [clears_clearFault, clears_cons]
    cases clearsOne k s j <;> cases clears ks s j <;> rfl

/-- Fault work: key records, the Fault List and its overflow flag may have changed, and nothing else. -/
def OnlyFaultWork (s t : State) : Prop :=
  t = { s with
    tracker := { s.tracker with keys := t.tracker.keys }
    cal := { s.cal with faultList := t.cal.faultList, overflow := t.cal.overflow } }

theorem OnlyFaultWork.trans {s t u : State} (h : OnlyFaultWork s t) (h' : OnlyFaultWork t u) : OnlyFaultWork s u := by
  unfold OnlyFaultWork at *
  rw [h'.trans (by rw [h])]

theorem OnlyFaultWork.msg {s t : State} (h : OnlyFaultWork s t) : t.msg = s.msg := by rw [h]

/-- After fault work and a reply the Message Unit has changed as well, and nothing else. -/
theorem OnlyFaultWork.reply {s t : State} (h : OnlyFaultWork s t) (code tag : Byte) (r : MsgResult) :
    appendReply code tag r t = { s with
      tracker := { s.tracker with keys := t.tracker.keys }
      cal := { s.cal with faultList := t.cal.faultList, overflow := t.cal.overflow }
      msg := (appendReply code tag r t).msg } := by
  rw [h]; rfl

theorem clearFault_onlyFaultWork (k : KeyIdx) (s : State) : OnlyFaultWork s (clearFault k s) := by
  unfold clearFault; split <;> rfl

theorem clearEach_onlyFaultWork (ks : List KeyIdx) (s : State) : OnlyFaultWork s (clearEach ks s) := by
  induction ks generalizing s with
  | nil => rfl
  | cons k ks ih => exact (clearFault_onlyFaultWork k s).trans (ih _)

theorem overflow_clearEach (ks : List KeyIdx) (s : State) : (clearEach ks s).cal.overflow = s.cal.overflow := by
  induction ks generalizing s with
  | nil => rfl
  | cons k ks ih =>
    have hone : (clearFault k s).cal.overflow = s.cal.overflow := by unfold clearFault; split <;> rfl
    rw [clearEach_cons, ih, hone]

/-- The overflow flag clears when no FAULT key is unlisted; nothing else changes. -/
theorem settleOverflow_eq (s : State) : settleOverflow s =
    { s with cal := { s.cal with overflow := if Sys2Proof.Claims.unlisted s = 0 then false else s.cal.overflow } } := by
  rw [settleOverflow, unlistedFaults_eq]
  split <;> rfl

theorem clearFaults_eq (ks : List KeyIdx) (s : State) : clearFaults ks s =
    { clearEach ks s with cal := { (clearEach ks s).cal with
        overflow := if Sys2Proof.Claims.unlisted (clearEach ks s) = 0 then false else s.cal.overflow } } := by
  rw [← overflow_clearEach ks s]
  exact settleOverflow_eq (clearEach ks s)

theorem key_clearFaults (ks : List KeyIdx) (s : State) (k : KeyIdx) :
    (clearFaults ks s).key k = if clears ks s k then returned (s.key k) else s.key k := by
  rw [clearFaults_eq]
  exact key_clearEach ks s k

theorem faultList_clearFaults (ks : List KeyIdx) (s : State) :
    (clearFaults ks s).cal.faultList = s.cal.faultList.filter (fun k => !clears ks s k) := by
  rw [clearFaults_eq]
  exact faultList_clearEach ks s

/-- The flag reads the records and the list as the clear leaves them. -/
theorem overflow_clearFaults (ks : List KeyIdx) (s : State) : (clearFaults ks s).cal.overflow =
    if Sys2Proof.Claims.unlisted (clearFaults ks s) = 0 then false else s.cal.overflow := by
  rw [clearFaults_eq]
  rfl

theorem clearFaults_onlyFaultWork (ks : List KeyIdx) (s : State) : OnlyFaultWork s (clearFaults ks s) := by
  rw [clearFaults_eq]
  exact (clearEach_onlyFaultWork ks s).trans rfl

/-- A value names every key, or the key of its number, each once. -/
theorem namedKeys_some {n : Nat} (h : n < 88 ∨ n = 255) :
    ∃ ks, namedKeys n = some ks ∧ ks.Nodup ∧ ∀ k : KeyIdx, k ∈ ks ↔ n = 255 ∨ k.val = n := by
  by_cases hall : n = 255
  · exact ⟨allKeys, if_pos hall, List.nodup_finRange 88, fun k => by simp [allKeys, hall]⟩
  · have hn : n < 88 := by omega
    exact ⟨[⟨n, hn⟩], by simp [namedKeys, hall, keyOf, hn], List.nodup_singleton _,
      fun k => by simp [hall, Fin.ext_iff]⟩

theorem namedKeys_none {n : Nat} (h88 : 88 ≤ n) (h : n ≠ 255) : namedKeys n = none := by
  simp [namedKeys, keyOf, h, Nat.not_lt.2 h88]

/-- The named keys of a kind, counted over the whole Key Table. -/
theorem filter_named_length {ks : List KeyIdx} (hnd : ks.Nodup) (p : KeyIdx → Bool) :
    (ks.filter p).length = ((List.finRange 88).filter (fun k => decide (k ∈ ks) && p k)).length :=
  List.Perm.length_eq <| (List.perm_ext_iff_of_nodup (hnd.filter _) ((List.nodup_finRange 88).filter _)).2
    fun k => by simp

/-- A reply stands behind those of the Message Unit that sends it, whatever else the state holds. -/
theorem appendReply_msg_congr {s t : State} (code tag : Byte) (r : MsgResult) (h : t.msg = s.msg) :
    (appendReply code tag r t).msg = (appendReply code tag r s).msg := by
  rw [appendReply, appendReply, h]

/-- FAULT_CLEAR in an open window leaves what its operation leaves, and one reply. -/
theorem exec_faultClear {tag : Byte} {body : List Byte} {s t : State} {r : MsgResult} (h : windowOpen s = true)
    (hop : faultClearOp body s = (t, r)) : exec (.faultClear tag body) s = .next (appendReply 0x22 tag r t) :=
  completed h hop

theorem faultClearOp_badValue {v : Byte} (h88 : 88 ≤ v.toNat) (h : v.toNat ≠ 255) (s : State) :
    faultClearOp [v] s = (s, .err .badValue) := by
  have hnone : namedKeys (u8At [v] 0) = none := namedKeys_none h88 h
  rw [faultClearOp, if_neg (by simp), hnone]

theorem faultClearOp_ok {v : Byte} {ks : List KeyIdx} (hks : namedKeys v.toNat = some ks) (hnd : ks.Nodup) (s : State) :
    faultClearOp [v] s = (clearFaults ks s, .ok (leBytes 1 ((List.finRange 88).filter (clears ks s)).length ++
      leBytes 1 (clearFaults ks s).cal.faultList.length ++ boolByte (clearFaults ks s).cal.overflow ++
      leBytes 1 (Sys2Proof.Claims.unlisted (clearFaults ks s)))) := by
  have hsome : namedKeys (u8At [v] 0) = some ks := hks
  rw [faultClearOp, if_neg (by simp), hsome]
  dsimp only
  rw [filter_named_length hnd, unlistedFaults_eq]
  rfl

/-- Settles O17: the value names its keys, and the clear goes by induction on them. -/
theorem faultClearReturnsKeys : Obligations.FaultClearReturnsKeys := by
  intro tag v s hw cleared
  refine ⟨fun h88 h255 => exec_faultClear hw (faultClearOp_badValue h88 h255 s), fun hv => ?ok⟩
  case ok =>
    obtain ⟨ks, hks, hnd, hmem⟩ := namedKeys_some hv
    have hcleared : clears ks s = cleared := funext fun k => by simp only [clears, cleared, hmem, Bool.decide_or]
    have hframe := clearFaults_onlyFaultWork ks s
    refine ⟨_, exec_faultClear hw (faultClearOp_ok hks hnd s), fun k => ?_, ?_, overflow_clearFaults ks s, ?_,
      hframe.reply _ _ _⟩
    · rw [← hcleared]
      exact key_clearFaults ks s k
    · rw [← hcleared]
      exact faultList_clearFaults ks s
    · rw [← hcleared]
      exact appendReply_msg_congr _ _ _ hframe.msg

/-! ## KEY_CAL_WRITE (R59, R60) -/

/-- The bytes of a KEY_CAL_WRITE's body (R59): key, calibration part. -/
abbrev keyCalBody (k : KeyIdx) (c : KeyCal) : List Byte :=
  let low (n : Nat) : Byte := BitVec.ofNat 8 n
  [low k.val, low c.rest, low (c.rest / 256), low c.bottom, low (c.bottom / 256), low c.tOff, low (c.tOff / 256),
    low c.tStart, low (c.tStart / 256), low c.tRearm, low (c.tRearm / 256), low c.tStrike, low (c.tStrike / 256),
    low c.curve, BitVec.ofInt 8 c.trim, low c.mode.code, low c.restLo, low (c.restLo / 256), low c.restHi,
    low (c.restHi / 256), if c.enabled then 1 else 0]

theorem keyCalBody_eq (k : KeyIdx) (c : KeyCal) : leBytes 1 k.val ++ keyCalBytes c = keyCalBody k c := by
  simp [keyCalBytes, leBytes, signedByte, boolByte]

theorem keyCalBody_length (k : KeyIdx) (c : KeyCal) : (keyCalBody k c).length = 21 := rfl

theorem signedByte_toInt {i : Int} (h1 : -128 ≤ i) (h2 : i ≤ 127) : (BitVec.ofInt 8 i).toInt = i := by
  rw [BitVec.toInt_ofInt]
  exact Int.bmod_eq_of_le (by omega) (by omega)

theorem keyOf_val (k : KeyIdx) : keyOf k.val = some k := dif_pos k.isLt

section KeyCalBody

variable {k : KeyIdx} {c : KeyCal}

theorem keyCalBody_key : keyOf (u8At (keyCalBody k c) 0) = some k := by
  have hkey : u8At (keyCalBody k c) 0 = k.val := Nat.mod_eq_of_lt (by omega)
  rw [hkey, keyOf_val]

/-- The code of a mode names the mode. -/
theorem keyCalBody_mode : (if u8At (keyCalBody k c) 15 = 1 then CalMode.auto else .manual) = c.mode ∧
    u8At (keyCalBody k c) 15 ≤ 1 := by
  have hcode : u8At (keyCalBody k c) 15 = (BitVec.ofNat 8 c.mode.code).toNat := rfl
  rw [hcode]
  cases c.mode <;> decide

theorem keyCalBody_enabled : decide (u8At (keyCalBody k c) 20 = 1) = c.enabled ∧ u8At (keyCalBody k c) 20 ≤ 1 := by
  have hcode : u8At (keyCalBody k c) 20 = (if c.enabled then 1 else 0 : Byte).toNat := rfl
  rw [hcode]
  cases c.enabled <;> decide

/-- The body gives the calibration part back. -/
theorem keyCalOfBody_keyCalBody (hfits : Sys2Proof.Claims.fitsBody c) : keyCalOfBody (keyCalBody k c) = c := by
  obtain ⟨hrest, hbottom, hoff, hstart, hrearm, hstrike, hcurve, htrim1, htrim2, hlo, hhi⟩ := hfits
  have frest : u16At (keyCalBody k c) 1 = c.rest := u16_of_bytes hrest
  have fbottom : u16At (keyCalBody k c) 3 = c.bottom := u16_of_bytes hbottom
  have foff : u16At (keyCalBody k c) 5 = c.tOff := u16_of_bytes hoff
  have fstart : u16At (keyCalBody k c) 7 = c.tStart := u16_of_bytes hstart
  have frearm : u16At (keyCalBody k c) 9 = c.tRearm := u16_of_bytes hrearm
  have fstrike : u16At (keyCalBody k c) 11 = c.tStrike := u16_of_bytes hstrike
  have fcurve : u8At (keyCalBody k c) 13 = c.curve := Nat.mod_eq_of_lt hcurve
  have ftrim : s8At (keyCalBody k c) 14 = c.trim := signedByte_toInt htrim1 htrim2
  have flo : u16At (keyCalBody k c) 16 = c.restLo := u16_of_bytes hlo
  have fhi : u16At (keyCalBody k c) 18 = c.restHi := u16_of_bytes hhi
  rw [keyCalOfBody, frest, fbottom, foff, fstart, frearm, fstrike, fcurve, ftrim, flo, fhi, keyCalBody_mode.1,
    keyCalBody_enabled.1]

/-- Checks 2 and 3 of R59 are the ranges and the order of the lines. -/
theorem keyCal_checks_iff (hfits : Sys2Proof.Claims.fitsBody c) :
    (!keyCalRangesOk (keyCalBody k c) || !linesOk c) = true ↔ ¬ Sys2Proof.Claims.linesPass c := by
  have hmode := (keyCalBody_mode (k := k) (c := c)).2
  have hon := (keyCalBody_enabled (k := k) (c := c)).2
  simp only [keyCalRangesOk, keyCalOfBody_keyCalBody hfits, linesOk, Sys2Proof.Claims.linesPass, ← Bool.not_and,
    Bool.not_eq_true', ← Bool.not_eq_true, Bool.and_eq_true, decide_eq_true_eq, hmode, hon, and_true, not_iff_not]
  omega

end KeyCalBody

/-- A clamp changes exactly the values outside the range. -/
theorem clampInt_ne_iff {lo hi n : Int} : clampInt lo hi n ≠ n ↔ n < lo ∨ hi < n := by
  unfold clampInt; split_ifs <;> omega

/-- Check 4 of R59 refuses a MANUAL key whose rest and bottom are out of range or too near. -/
theorem span_refused_iff (mode : CalMode) (rest bottom : Nat) : mode = .manual ∧ spanOk rest bottom = false ↔
    ¬ (mode = .auto ∨ (rest ≤ 4095 ∧ bottom ≤ 4095 ∧ 128 ≤ distance bottom rest)) := by
  rw [← spanOk_iff, not_or, Bool.not_eq_true]
  cases mode <;> simp

/-- KEY_CAL_WRITE in an open window leaves what its operation leaves, and one reply. -/
theorem exec_keyCalWrite {tag : Byte} {k : KeyIdx} {c : KeyCal} {s t : State} {r : MsgResult} (h : windowOpen s = true)
    (hop : keyCalWriteOp (keyCalBody k c) s = (t, r)) :
    exec (.keyCalWrite tag (leBytes 1 k.val ++ keyCalBytes c)) s = .next (appendReply 0x10 tag r t) := by
  rw [keyCalBody_eq]
  exact completed h hop

section KeyCalWrite

variable {k : KeyIdx} {c : KeyCal} {s : State}

/-- The checks of R59 on a body of full length that names a key, in their order. -/
theorem keyCalWriteOp_eq (hfits : Sys2Proof.Claims.fitsBody c) : keyCalWriteOp (keyCalBody k c) s =
    if (!keyCalRangesOk (keyCalBody k c) || !linesOk c) = true then (s, .err .badValue)
    else if (s.key k).cal.mode = .manual ∧ spanOk c.rest c.bottom = false then (s, .err .badValue)
    else if (s.key k).motion ≠ .rest ∨ (s.key k).note ≠ .idle then (s, .err .keyBusy)
    else (applyKeyCal k c s,
      .ok (leBytes 1 k.val ++ keyCalBytes (storedKeyCal (s.key k).cal c) ++
        boolByte (decide ((s.key k).cal.mode = .auto)) ++ boolByte (decide (c.trim < -16 ∨ 15 < c.trim)))) := by
  rw [keyCalWriteOp, if_neg (not_not.2 (keyCalBody_length k c)), keyCalBody_key]
  simp only [keyCalOfBody_keyCalBody hfits, clampInt_ne_iff]

theorem keyCalWriteOp_badValue (hfits : Sys2Proof.Claims.fitsBody c)
    (h : ¬ (Sys2Proof.Claims.linesPass c ∧
      ((s.key k).cal.mode = .auto ∨ (c.rest ≤ 4095 ∧ c.bottom ≤ 4095 ∧ 128 ≤ distance c.bottom c.rest)))) :
    keyCalWriteOp (keyCalBody k c) s = (s, .err .badValue) := by
  rw [keyCalWriteOp_eq hfits]
  by_cases hlines : Sys2Proof.Claims.linesPass c
  · have hspan := (span_refused_iff _ _ _).2 fun hspan => h ⟨hlines, hspan⟩
    rw [if_pos hspan, ite_self]
  · exact if_pos ((keyCal_checks_iff hfits).2 hlines)

/-- Past the checks of the values, what remains is whether the key is at rest with nothing sounding. -/
theorem keyCalWriteOp_values (hfits : Sys2Proof.Claims.fitsBody c) (hlines : Sys2Proof.Claims.linesPass c)
    (hspan : (s.key k).cal.mode = .auto ∨ (c.rest ≤ 4095 ∧ c.bottom ≤ 4095 ∧ 128 ≤ distance c.bottom c.rest)) :
    keyCalWriteOp (keyCalBody k c) s =
      if (s.key k).motion ≠ .rest ∨ (s.key k).note ≠ .idle then (s, .err .keyBusy)
      else (applyKeyCal k c s,
        .ok (leBytes 1 k.val ++ keyCalBytes (storedKeyCal (s.key k).cal c) ++
          boolByte (decide ((s.key k).cal.mode = .auto)) ++ boolByte (decide (c.trim < -16 ∨ 15 < c.trim)))) := by
  rw [keyCalWriteOp_eq hfits, if_neg (not_not.2 hlines ∘ (keyCal_checks_iff hfits).1),
    if_neg (not_not.2 hspan ∘ (span_refused_iff _ _ _).1)]

end KeyCalWrite

/-- Settles O19: the body read back field by field, the checks in their order, and the part stored. -/
theorem keyCalWriteStoresThePart : Obligations.KeyCalWriteStoresThePart := by
  intro tag k c s hw hfits i r spanPass stored off
  refine ⟨fun hbad => ?badValue, fun hlines hspan hbusy => ?busy, fun hlines hspan hm hn => ?stored⟩
  case badValue => exact exec_keyCalWrite hw (keyCalWriteOp_badValue hfits hbad)
  case busy => exact exec_keyCalWrite hw ((keyCalWriteOp_values hfits hlines hspan).trans (if_pos hbusy))
  case stored =>
    have hquiet : ¬ ((s.key k).motion ≠ .rest ∨ (s.key k).note ≠ .idle) := by simp [r, hm, hn]
    exact exec_keyCalWrite hw ((keyCalWriteOp_values hfits hlines hspan).trans (if_neg hquiet))

/-! ## The Settings Store: NV_SAVE and NV_DONE (R73, R74) -/

/-- NV_SAVE in an open window leaves what its operation leaves, and one reply. -/
theorem exec_nvSave {tag : Byte} {body : List Byte} {s t : State} {r : MsgResult} (h : windowOpen s = true)
    (hop : nvSaveOp body s = (t, r)) : exec (.nvSave tag body) s = .next (appendReply 0x23 tag r t) :=
  completed h hop

theorem nvSaveOp_busy {s : State} (h : s.store.saving = true) : nvSaveOp [] s = (s, .err .nvBusy) := if_pos h

theorem nvSaveOp_started {s : State} (h : s.store.saving = false) : nvSaveOp [] s =
    ({ s with store := { s.store with
        saveImage := workingSettings s, valid := false, saving := true, saveFrames := 0 } }, .ok []) :=
  if_neg (by simp [h] : ¬ s.store.saving = true)

/-- NV_DONE where it is due completes the save. -/
theorem exec_nvDone {s : State} (hsaving : s.store.saving = true) (h1 : 1 ≤ s.store.saveFrames)
    (h2 : s.store.saveFrames ≤ 2400) (ok : Bool) : exec (.nvDone ok) s = .next (completeSave ok s) :=
  congrArg Host.Outcome.next (if_pos ⟨hsaving, h1, h2⟩)

/-- Settles O20: the two outcomes of NV_SAVE, and the completion by what the read-back says. -/
theorem saveLeavesTheStoreValidOrInvalid : Obligations.SaveLeavesTheStoreValidOrInvalid := by
  intro tag ok s
  refine ⟨fun hw hbusy => exec_nvSave hw (nvSaveOp_busy hbusy), fun hw hidle => exec_nvSave hw (nvSaveOp_started hidle),
    fun hsaving h1 h2 => ?done⟩
  case done =>
    rw [exec_nvDone hsaving h1 h2]
    cases ok with
    | true => rfl
    | false => rfl

/-! ## NV_RESTORE (R75, R76) -/

theorem key_loadSettings (set : Settings) (s : State) (k : KeyIdx) :
    (loadSettings set s).key k = recalibrated (s.key k) set.keys[k.val] :=
  key_updateKeys (fun k r => recalibrated r set.keys[k.val]) s k

theorem pedal_loadSettings (set : Settings) (s : State) (p : PedalIdx) :
    (loadSettings set s).pedal p = { s.pedal p with cal := set.pedals[p.val] } := by
  simp [State.pedal, loadSettings]

/-- The settings loaded are the working settings. -/
theorem workingSettings_loadSettings (set : Settings) (s : State) : workingSettings (loadSettings set s) = set := by
  have hkeys : mapVec KeyRecord.cal (loadSettings set s).tracker.keys = set.keys := by
    ext1 i hi
    rw [mapVec_getElem]
    exact congrArg KeyRecord.cal (key_loadSettings set s ⟨i, hi⟩)
  have hpedals : mapVec PedalRecord.cal (loadSettings set s).pedalUnit.pedals = set.pedals := by
    ext1 i hi
    rw [mapVec_getElem]
    exact congrArg PedalRecord.cal (pedal_loadSettings set s ⟨i, hi⟩)
  rw [workingSettings, hkeys, hpedals]
  rfl

theorem allKeysQuiet_iff (s : State) :
    allKeysQuiet s = true ↔ ∀ k : KeyIdx, (s.key k).motion = .rest ∧ (s.key k).note = .idle := by
  simp [allKeysQuiet, allKeys]

/-- The state an NV_RESTORE leaves before its reply: the settings loaded, their source recorded (R76). -/
def restored (s : State) : State :=
  { loadSettings (restoredSettings s.store) s with store := { s.store with source := sourceOf s.store } }

/-- NV_RESTORE in an open window leaves what its operation leaves, and one reply. -/
theorem exec_nvRestore {tag : Byte} {body : List Byte} {s t : State} {r : MsgResult} (h : windowOpen s = true)
    (hop : nvRestoreOp body s = (t, r)) : exec (.nvRestore tag body) s = .next (appendReply 0x24 tag r t) :=
  completed h hop

theorem nvRestoreOp_busy {s : State} (h : s.store.saving = true) : nvRestoreOp [] s = (s, .err .nvBusy) := if_pos h

theorem nvRestoreOp_idle {s : State} (h : s.store.saving = false) : nvRestoreOp [] s =
    if s.cal.running = true ∨ allKeysQuiet s = false then (s, .err .wrongState)
    else (restored s, .ok (leBytes 1 (sourceOf s.store).code)) :=
  if_neg (by simp [h] : ¬ s.store.saving = true)

theorem restore_refused_iff (s : State) : s.cal.running = true ∨ allKeysQuiet s = false ↔
    ¬ (s.cal.running = false ∧ ∀ k : KeyIdx, (s.key k).motion = .rest ∧ (s.key k).note = .idle) := by
  rw [← allKeysQuiet_iff, not_and_or, Bool.not_eq_false, Bool.not_eq_true]

/-- The source's code is 0 for the image of a valid store and 1 for the factory settings. -/
theorem sourceOf_code (st : SettingsStore) : leBytes 1 (sourceOf st).code = if st.valid then [0] else [1] := by
  cases hvalid : st.valid <;> (rw [sourceOf, hvalid]; rfl)

/-- Settles O21: the refusals by the store's and the keys' state, and the loaded settings read back. -/
theorem restoreLoadsTheSettings : Obligations.RestoreLoadsTheSettings := by
  intro tag s hw quiet
  refine ⟨fun hbusy => exec_nvRestore hw (nvRestoreOp_busy hbusy),
    fun hidle hloud => exec_nvRestore hw ((nvRestoreOp_idle hidle).trans (if_pos ((restore_refused_iff s).2 hloud))),
    fun hidle hquiet => ?loads⟩
  case loads =>
    have hop : nvRestoreOp [] s = (restored s, .ok (if s.store.valid then [0] else [1])) := by
      rw [nvRestoreOp_idle hidle, if_neg (not_not.2 hquiet ∘ (restore_refused_iff s).1), sourceOf_code]
    refine ⟨_, exec_nvRestore hw hop, workingSettings_loadSettings (restoredSettings s.store) s, rfl, fun k => ?_,
      fun p => ?_, rfl, rfl, rfl, rfl, rfl, rfl, rfl, rfl, rfl⟩
    · have hkey : (appendReply 0x24 tag (.ok (if s.store.valid then [0] else [1])) (restored s)).key k = _ :=
        key_loadSettings (restoredSettings s.store) s k
      rw [hkey]
      exact ⟨rfl, rfl, rfl, (hquiet.2 k).1, (hquiet.2 k).2, rfl⟩
    · have hpedal : (appendReply 0x24 tag (.ok (if s.store.valid then [0] else [1])) (restored s)).pedal p = _ :=
        pedal_loadSettings (restoredSettings s.store) s p
      rw [hpedal]

/-! ## The state right after reset -/

/-- Every key is at rest and idle right after reset, in no set. -/
theorem key_reset (k : KeyIdx) : State.reset.key k = resetKey factoryKeyCal :=
  (mapVec_getElem resetKey factorySettings.keys k.isLt).trans (congrArg resetKey (Vector.getElem_replicate _))

/-- The balance stands in the middle right after reset, no fade under way and no change pending. -/
theorem balanceBounded_reset : balanceBounded State.reset :=
  ⟨by decide, fun f h => absurd h.symm (Option.some_ne_none f), fun p h => absurd h.symm (Option.some_ne_none p)⟩

/-- The six headphone samples right after reset are silent. -/
theorem samplesBounded_reset : samplesBounded State.reset := by
  intro p hp
  rw [List.eq_of_mem_replicate (show p ∈ List.replicate 6 (0, 0) from hp)]
  exact ⟨⟨by decide, by decide⟩, by decide, by decide⟩

/-- No key is in FAULT right after reset, and none is listed. -/
theorem faultListKept_reset : faultListKept State.reset := by
  refine ⟨Nat.zero_le _, List.nodup_nil, fun k hk => absurd hk List.not_mem_nil, fun k hfault => ?_⟩
  rw [key_reset] at hfault
  exact absurd hfault (by decide)

/-- The Player is STOPPED right after reset, its sets empty. -/
theorem playerSetsKept_reset : playerSetsKept State.reset :=
  ⟨fun _ => ⟨rfl, rfl⟩, Nat.zero_le _, fun h => absurd rfl h, .nil, .nil⟩

/-- The driver is at COAST right after reset, and the reported evaluation is not satisfied. -/
theorem driverGuarded_reset : driverGuarded State.reset := by
  refine ⟨fun hdrives => ?_, ?_⟩
  · exact absurd hdrives (by decide)
  · decide

/-- The counters stand at 0 right after reset, and no message is under assembly. -/
theorem countersKept_reset : countersKept State.reset :=
  ⟨Nat.zero_le _, Nat.zero_le _, Nat.zero_le _, fun _ _ h => Assembler.noConfusion h⟩

/-- Settles O57, one lemma per part of the invariant. -/
theorem invHoldsAtReset : Obligations.InvHoldsAtReset where
  queue := ⟨Nat.zero_le _, Nat.zero_le _⟩
  links := ⟨Nat.zero_le _, Nat.zero_le _⟩
  memory := reset_memory_wf
  balance := balanceBounded_reset
  samples := samplesBounded_reset
  gate := ⟨rfl, rfl⟩
  faults := faultListKept_reset
  sets := playerSetsKept_reset
  driver := driverGuarded_reset
  counters := countersKept_reset

end Sys2Proof.Proofs.Calibration

/-! PROOFS. Chapter 05: the Event Queue (R77 to R89) with the follow-mode comparison of an admitted NOTE_ON (R147). One equation
per case of each operation, then the statement. -/

namespace Sys2Proof.Proofs.EventQueue

open Sys2Proof.Machine
open Sys2Proof.Proofs.Pedals (refuseLive_eq)

/-! ## Playback records (R79) -/

/-- A clamp is a minimum within a maximum. -/
theorem clampNat_eq_max_min {lo hi n : Nat} (h : lo ≤ hi) : clampNat lo hi n = max lo (min hi n) := by
  unfold clampNat; split_ifs <;> omega

/-- The value an admitted playback record is given. -/
theorem limitValue_eq (r : EventRecord) : limitValue r = { r with
    value := match r.kind with
      | .noteOn | .guideOn => max 1 (min 127 r.value)
      | .damper | .sostenuto | .soft => min 127 r.value
      | .noteOff | .guideOff => 0
      | .miss => r.value } := by
  obtain ⟨kind, source, stream, part, key, value, isRepeat, offset, age⟩ := r
  cases kind <;> simp only [limitValue, clampNat_eq_max_min, Nat.zero_max, Nat.reduceLeDiff, zero_le]

/-! ## Live records refused (R81, R89) -/

/-- A refused NOTE_ON whose overrun has been reported is counted as a refusal and as a drop. -/
theorem refuseLive_noteOn_sent {ev : EventRecord} {s : State} (h : ev.kind = .noteOn) (hsent : s.queue.overrun = .sent) :
    refuseLive ev s = { s with queue := { s.queue with
      refusals := satInc 65535 s.queue.refusals, drops := satInc 65535 s.queue.drops } } := by
  simp [refuseLive, h, hsent]

/-- The flag of the overrun is set before or after its notice alike. -/
theorem raiseNotice_setQueue (kind : NoticeKind) (data : List Byte) (q : EventQueue) (s : State) :
    { raiseNotice kind data s with queue := q } = raiseNotice kind data { s with queue := q } := by
  unfold raiseNotice; split <;> rfl

/-- A refused NOTE_ON with the flag ARMED raises QUEUE_OVERRUN as well. -/
theorem refuseLive_noteOn_armed {ev : EventRecord} {s : State} (h : ev.kind = .noteOn) (harmed : s.queue.overrun = .armed) :
    refuseLive ev s = raiseNotice .queueOverrun
      (leBytes 1 ev.key ++ leBytes 1 ev.value ++ leBytes 2 (satInc 65535 s.queue.drops) ++ leBytes 1 s.queue.playbackCount)
      { s with queue := { s.queue with
        refusals := satInc 65535 s.queue.refusals, drops := satInc 65535 s.queue.drops, overrun := .sent } } := by
  simp only [refuseLive, if_pos h, if_pos harmed, raiseOverrun, raiseNotice_queue, raiseNotice_setQueue]
  rfl

/-! ## Live records admitted (R87, R147) -/

/-- Outside WAITING, and with the recorder IDLE, an admitted live record is observed by no one. -/
theorem observeLive_unobserved {ev : EventRecord} {s : State} (hidle : s.recorder.state = .idle)
    (hwait : s.player.state ≠ .waiting) : observeLive ev s = s := by
  simp [observeLive, captureObserve, followObserve, hidle, hwait]

/-- A NOTE_ON observed with the recorder IDLE while the Player is WAITING is a match where the expected set holds its key. -/
theorem observeLive_match {ev : EventRecord} {part : Nat} {s : State} (hidle : s.recorder.state = .idle)
    (hwait : s.player.state = .waiting) (hkind : ev.kind = .noteOn) (h : matchPart s.player.expected ev.key = some part) :
    observeLive ev s = followMatch part ev.key s := by
  simp [observeLive, captureObserve, followObserve, hidle, hwait, hkind, h]

/-- It is a miss where the expected set does not hold its key. -/
theorem observeLive_miss {ev : EventRecord} {s : State} (hidle : s.recorder.state = .idle)
    (hwait : s.player.state = .waiting) (hkind : ev.kind = .noteOn) (h : matchPart s.player.expected ev.key = none) :
    observeLive ev s = followMiss ev s := by
  simp [observeLive, captureObserve, followObserve, hidle, hwait, hkind, h]

/-- The lowest of parts found so far and to come. -/
theorem foldl_lowest (l : List (Nat × Nat)) (b : Nat) :
    l.foldl (fun best e => match best with | none => some e.1 | some b => some (min b e.1)) (some b) =
      some (l.foldl (fun b e => min b e.1) b) := by
  induction l generalizing b with
  | nil => rfl
  | cons e l ih => exact ih _

theorem foldl_min_eq {l : List (Nat × Nat)} {b m : Nat} (hb : m ≤ b) (hle : ∀ e ∈ l, m ≤ e.1)
    (hm : m = b ∨ ∃ e ∈ l, e.1 = m) : l.foldl (fun b e => min b e.1) b = m := by
  induction l generalizing b with
  | nil => simpa [eq_comm] using hm
  | cons e l ih =>
    obtain ⟨he, hle⟩ := List.forall_mem_cons.1 hle
    refine ih (le_min hb he) hle ?_
    rcases hm with rfl | ⟨x, hx, hxm⟩
    · exact .inl (min_eq_left he).symm
    · rcases List.mem_cons.1 hx with rfl | hx
      · exact .inl (hxm ▸ (min_eq_right (hxm ▸ hb)).symm)
      · exact .inr ⟨x, hx, hxm⟩

/-- A key that is expected under no part matches none. -/
theorem matchPart_none {expected : List (Nat × Nat)} {key : Nat} (h : ∀ e ∈ expected, e.2 ≠ key) :
    matchPart expected key = none := by
  have hnone : expected.filter (fun e => decide (e.2 = key)) = [] :=
    List.filter_eq_nil_iff.2 fun e he => by simpa using h e he
  rw [matchPart, hnone, List.foldl_nil]

/-- A key that is expected matches the lowest of its parts. -/
theorem matchPart_some {expected : List (Nat × Nat)} {part key : Nat} (hmem : (part, key) ∈ expected)
    (hle : ∀ e ∈ expected, e.2 = key → part ≤ e.1) : matchPart expected key = some part := by
  have hmem' : (part, key) ∈ expected.filter (fun e => decide (e.2 = key)) := by simpa using hmem
  have hle' : ∀ e ∈ expected.filter (fun e => decide (e.2 = key)), part ≤ e.1 := fun e he => by
    simp only [List.mem_filter, decide_eq_true_eq] at he
    exact hle e he.1 he.2
  rw [matchPart]
  cases hl : expected.filter (fun e => decide (e.2 = key)) with
  | nil => rw [hl] at hmem'; simp at hmem'
  | cons e l =>
    rw [hl] at hmem' hle'
    refine (foldl_lowest l e.1).trans (congrArg some (foldl_min_eq (hle' e (by simp)) (fun x hx => hle' x (by simp [hx])) ?_))
    rcases List.mem_cons.1 hmem' with h | h
    · exact .inl (by rw [← h])
    · exact .inr ⟨_, h, rfl⟩

/-- A mistake of the player on the keys is counted, and its MISS enters where a playback record has room. -/
theorem followMiss_eq (ev : EventRecord) (s : State) : followMiss ev s = { s with
    player := { s.player with mistakes := satInc 65535 s.player.mistakes }
    queue := { s.queue with records := if s.queue.records.length ≤ 63 then
      s.queue.records ++ [{ ev with kind := .miss, source := .playback, stream := .a, isRepeat := false, age := 0 }]
      else s.queue.records } } := by
  rw [followMiss]
  rcases Nat.lt_or_ge s.queue.records.length 64 with h | h
  · rw [presentPlayback_admitted (by simpa using Nat.le_of_lt_succ h), if_pos (Nat.le_of_lt_succ h)]
    rfl
  · rw [presentPlayback_refused (by simpa using h), if_neg (Nat.not_le.2 h)]

/-- The Player after a matched entry has left the expected set (R147). -/
def matchedPlayer (part key : Nat) (p : Player) : Player :=
  let left := p.expected.filter (fun e => decide (e ≠ (part, key)))
  { p with expected := left, state := if left = [] then .running else p.state }

/-- A matched pair that is not lit presents nothing. -/
theorem followMatch_unlit {part key : Nat} {s : State} (h : pairStream s.player.lit part key = none) :
    followMatch part key s = { s with player := matchedPlayer part key s.player } := by
  simp only [followMatch, h]; rfl

/-- The guide of a matched pair is turned off where a playback record has room. -/
theorem followMatch_lit {part key : Nat} {st : Stream} {s : State} (h : pairStream s.player.lit part key = some st)
    (hroom : s.queue.records.length ≤ 63) : followMatch part key s =
      { s with
        player := { matchedPlayer part key s.player with lit := dropPair s.player.lit part key }
        queue := { s.queue with records := s.queue.records ++ [guideOffOf { part := part, key := key, stream := st }] } } := by
  simp only [followMatch, h]
  rw [presentPlayback_admitted (by simpa using hroom)]
  rfl

/-- A matched pair's guide stays lit where its GUIDE_OFF is refused. -/
theorem followMatch_refused {part key : Nat} {st : Stream} {s : State} (h : pairStream s.player.lit part key = some st)
    (hfull : 64 ≤ s.queue.records.length) : followMatch part key s = { s with player := matchedPlayer part key s.player } := by
  simp only [followMatch, h]
  rw [presentPlayback_refused (by simpa using hfull)]
  rfl

/-- The set without a pair, as its members are described. -/
theorem dropPair_eq (l : List PlayPair) (part key : Nat) :
    dropPair l part key = l.filter (fun x => decide (¬ (x.part = part ∧ x.key = key))) := by
  simp only [dropPair, decide_not, Bool.decide_and]

/-! ## The drain (R84, R89) -/

/-- A drain leaves the list empty exactly where it held at most six records. -/
theorem drainQueue_eq (q : EventQueue) : drainQueue q = { q with
    slots := q.records.take 6
    records := (q.records.drop 6).map (fun r => { r with age := min 255 (r.age + 1) })
    overrun := if q.records.length ≤ 6 then .armed else q.overrun } := by
  simp only [drainQueue, List.drop_eq_nil_iff]
  rfl

/-- Settles O56: the live record by admission or refusal and by what the WAITING Player expects, the playback record by its room,
and the drain. -/
theorem theEventQueueAdmitsAndDrains : Obligations.TheEventQueueAdmitsAndDrains := by
  intro ev s q n counted dropped limited
  refine ⟨fun hn hidle hwait => ?admitted, fun hn hkind => ?refused, fun hn hkind hsent => ?dropped,
    fun hn hkind harmed => ?overrun, fun hn hkind hidle hwait => ⟨fun hmiss => ?miss, fun part hmem hle => ?matched⟩,
    fun hn => ?playback, fun hn => presentPlayback_refused hn, ?drain⟩
  case admitted =>
    rw [presentLive_admitted hn, observeLive_unobserved (s := enqueue ev s) hidle hwait]
    rfl
  case refused => rw [presentLive_refused hn, refuseLive_eq hkind]
  case dropped =>
    rw [presentLive_refused hn, refuseLive_noteOn_sent hkind hsent]
    rfl
  case overrun =>
    rw [presentLive_refused hn, refuseLive_noteOn_armed hkind harmed]
    rfl
  case miss =>
    have hlen : (enqueue ev s).queue.records.length ≤ 63 ↔ n ≤ 62 := by simp [n, q, Nat.lt_succ_iff]
    rw [presentLive_admitted hn, observeLive_miss (s := enqueue ev s) hidle hwait hkind (matchPart_none hmiss)]
    simp only [followMiss_eq, hlen]
    rfl
  case matched =>
    intro left matched off
    have hlive : presentLive ev s = (followMatch part ev.key (enqueue ev s), true) := by
      rw [presentLive_admitted hn, observeLive_match (s := enqueue ev s) hidle hwait hkind (matchPart_some hmem hle)]
    have hplayer : matchedPlayer part ev.key s.player = matched := by
      simp only [matchedPlayer, hwait]; rfl
    have hlen : (enqueue ev s).queue.records.length = n + 1 := by simp [n, q]
    rw [hlive]
    refine ⟨fun hlit => ?_, fun st hlit => ⟨fun hroom => ?_, fun hfull => ?_⟩⟩
    · rw [followMatch_unlit (s := enqueue ev s) hlit, enqueue_player, hplayer]; rfl
    · rw [followMatch_lit (s := enqueue ev s) hlit (by omega), enqueue_player, hplayer, dropPair_eq]; rfl
    · rw [followMatch_refused (s := enqueue ev s) hlit (by omega), enqueue_player, hplayer]; rfl
  case playback =>
    rw [presentPlayback_admitted hn, limitValue_eq]
    rfl
  case drain =>
    change (none, { s with queue := drainQueue s.queue }) = _
    rw [drainQueue_eq]

end Sys2Proof.Proofs.EventQueue

/-! PROOFS. Chapter 05: the endings that the Player presents to the Event Queue (R78), in its flush (R140, R141) and in its part
clean-up (R137). Both present a list of items until the first refusal: first what one item and a list of them leave, then the
items of each, then the statements. -/

namespace Sys2Proof.Proofs.Endings

open Sys2Proof.Machine
open Sys2Proof.Claims (ending shown damped decided halted announced)

/-! ## Ascending sets of pairs (R131) -/

theorem pairsAscending_nodup {l : List PlayPair} (h : pairsAscending l) : l.Nodup :=
  h.imp fun hab heq => by subst heq; unfold pairBefore at hab; omega

/-- An ascending set without its first pair is the rest of it. -/
theorem dropPair_head {q : PlayPair} {l : List PlayPair} (h : pairsAscending (q :: l)) :
    dropPair (q :: l) q.part q.key = l := by
  have hrest : ∀ x ∈ l, ¬ (x.part = q.part ∧ x.key = q.key) := fun x hx => by
    have hlt := (List.pairwise_cons.1 h).1 x hx
    unfold pairBefore at hlt
    omega
  simpa [dropPair, imp_iff_not_or] using hrest

/-- An ascending set holds one pair of each part and key. -/
theorem eq_of_same_pair {l : List PlayPair} (h : pairsAscending l) {a b : PlayPair} (ha : a ∈ l) (hb : b ∈ l)
    (hpart : a.part = b.part) (hkey : a.key = b.key) : a = b := by
  obtain ⟨i, hi, rfl⟩ := List.getElem_of_mem ha
  obtain ⟨j, hj, rfl⟩ := List.getElem_of_mem hb
  have hsorted := List.pairwise_iff_getElem.1 h
  rcases Nat.lt_trichotomy i j with hij | rfl | hij
  · have hlt := hsorted i j hi hj hij
    unfold pairBefore at hlt
    omega
  · rfl
  · have hlt := hsorted j i hj hi hij
    unfold pairBefore at hlt
    omega

/-- An ascending set without the part and key of one of its pairs is the set without that pair. -/
theorem dropPair_eq_filter_ne {q : PlayPair} {l : List PlayPair} (h : pairsAscending l) (hq : q ∈ l) :
    dropPair l q.part q.key = l.filter (fun x => decide (x ≠ q)) := by
  refine List.filter_congr fun x hx => ?_
  have hsame : x.part = q.part ∧ x.key = q.key ↔ x = q :=
    ⟨fun ⟨hpart, hkey⟩ => eq_of_same_pair h hx hq hpart hkey, fun e => by simp [e]⟩
  simp [← hsame, ← Bool.decide_and]

/-- What stands in a list without repetition after its first `k` members is the rest of it. -/
theorem filter_notMem_take {α : Type} [DecidableEq α] {l : List α} (h : l.Nodup) (k : Nat) :
    l.filter (fun x => decide (x ∉ l.take k)) = l.drop k := by
  have hdisjoint := List.disjoint_take_drop h (le_refl k)
  have hfront : (l.take k).filter (fun x => decide (x ∉ l.take k)) = [] :=
    List.filter_eq_nil_iff.2 fun x hx => by simpa using hx
  have hback : (l.drop k).filter (fun x => decide (x ∉ l.take k)) = l.drop k :=
    List.filter_eq_self.2 fun x hx => by simpa using fun hx' => hdisjoint hx' hx
  calc l.filter (fun x => decide (x ∉ l.take k))
      = (l.take k ++ l.drop k).filter (fun x => decide (x ∉ l.take k)) := by rw [List.take_append_drop]
    _ = l.drop k := by rw [List.filter_append, hfront, hback, List.nil_append]

/-! ## Part settings -/

/-- A part's settings changed are those of that part alone. -/
theorem partAt_setPart (n m : Nat) (f : PartSetting → PartSetting) (p : Player) :
    partAt (setPart n f p) m = if n < 4 ∧ m = n then f (partAt p m) else partAt p m := by
  by_cases hn : n < 4
  · by_cases hm : m = n
    · subst hm; simp [setPart, partAt, hn]
    · simp [setPart, partAt, hn, hm, Ne.symm hm]
  · simp [setPart, hn]

/-- The settings of a part are changed within the parts. -/
theorem setPart_frame (n : Nat) (f : PartSetting → PartSetting) (p : Player) :
    setPart n f p = { p with parts := (setPart n f p).parts } := by
  unfold setPart; split <;> rfl

/-! ## One item -/

/-- The Player after an item of the flush or the clean-up has been admitted (R137, R141). -/
def endedItem (p : Player) (i : FlushItem) : Player :=
  match i with
  | .noteOff q => { p with sounding := dropPair p.sounding q.part q.key }
  | .damper n => setPart n (fun q => { q with lastDamper := 0 }) p
  | .guideOff q => { p with lit := dropPair p.lit q.part q.key }

/-- The queue record of an item at a rate other than 256. -/
def itemEnding (p : Player) : FlushItem → EventRecord
  | .noteOff q => ending .noteOff q.stream q.part q.key
  | .damper n => ending .damper (partAt p n).stream n 0
  | .guideOff q => ending .guideOff q.stream q.part q.key

/-- `t` is `s` after the records of items have entered the queue and the items have left the Player's sets. -/
def Entered (is : List FlushItem) (s t : State) : Prop :=
  ∃ rs : List EventRecord, rs.map shown = is.map (itemEnding s.player) ∧
    (s.player.rate ≠ 256 → rs = is.map (itemEnding s.player)) ∧
    t = { s with
      queue := { s.queue with records := s.queue.records ++ rs }
      free := t.free
      player := is.foldl endedItem s.player }

/-- The endings that no take record carries have a sub-frame of 0 at every rate but 256 (R78). -/
theorem endingOffset_eq_zero {s : State} (h : s.player.rate ≠ 256) : endingOffset s = 0 := if_neg h

theorem presentNoteOff_admitted (q : PlayPair) {s : State} (h : s.queue.records.length ≤ 63) :
    presentNoteOff q s = ({ s with
      queue := { s.queue with records :=
        s.queue.records ++ [{ ending .noteOff q.stream q.part q.key with offset := endingOffset s }] }
      free := s.free + 1
      player := endedItem s.player (.noteOff q) }, true) := by
  rw [presentNoteOff, presentPlayback_admitted (by simpa using h)]; rfl

theorem presentDamperZero_admitted (n : Nat) {s : State} (h : s.queue.records.length ≤ 63) :
    presentDamperZero n s = ({ s with
      queue := { s.queue with records :=
        s.queue.records ++ [{ ending .damper (partAt s.player n).stream n 0 with offset := endingOffset s }] }
      free := s.free + 1
      player := endedItem s.player (.damper n) }, true) := by
  rw [presentDamperZero, presentPlayback_admitted (by simpa using h)]; rfl

theorem presentGuideOff_admitted (q : PlayPair) {s : State} (h : s.queue.records.length ≤ 63) :
    presentGuideOff q s = ({ s with
      queue := { s.queue with records := s.queue.records ++ [ending .guideOff q.stream q.part q.key] }
      player := endedItem s.player (.guideOff q) }, true) := by
  rw [presentGuideOff, presentPlayback_admitted h]; rfl

/-- An item enters where a playback record has room. -/
theorem presentFlushItem_admitted (i : FlushItem) {s : State} (h : s.queue.records.length ≤ 63) :
    ∃ t, presentFlushItem i s = (t, true) ∧ Entered [i] s t := by
  cases i with
  | noteOff q => exact ⟨_, presentNoteOff_admitted q h, _, rfl, fun hrate => by rw [endingOffset_eq_zero hrate]; rfl, rfl⟩
  | damper n => exact ⟨_, presentDamperZero_admitted n h, _, rfl, fun hrate => by rw [endingOffset_eq_zero hrate]; rfl, rfl⟩
  | guideOff q => exact ⟨_, presentGuideOff_admitted q h, _, rfl, fun _ => rfl, rfl⟩

/-- A refused item leaves everything but the free values, one of which is drawn for its sub-frame (log 27). -/
theorem presentFlushItem_refused (i : FlushItem) {s : State} (h : 64 ≤ s.queue.records.length) :
    ∃ t, presentFlushItem i s = (t, false) ∧ Entered [] s t := by
  have hstays (n : Nat) : Entered [] s { s with free := n } := ⟨[], rfl, fun _ => rfl, by rw [List.append_nil]; rfl⟩
  cases i with
  | noteOff q =>
    refine ⟨{ s with free := s.free + 1 }, ?_, hstays _⟩
    rw [presentFlushItem, presentNoteOff, presentPlayback_refused (by simpa using h)]; rfl
  | damper n =>
    refine ⟨{ s with free := s.free + 1 }, ?_, hstays _⟩
    rw [presentFlushItem, presentDamperZero, presentPlayback_refused (by simpa using h)]; rfl
  | guideOff q =>
    refine ⟨s, ?_, hstays s.free⟩
    rw [presentFlushItem, presentGuideOff, presentPlayback_refused h]; rfl

/-! ## A list of items -/

/-- The streams of the parts stand, so the records of the items to come do. -/
theorem itemEnding_endedItem (p : Player) (i : FlushItem) : itemEnding (endedItem p i) = itemEnding p := by
  funext j
  cases j with
  | noteOff q => rfl
  | guideOff q => rfl
  | damper m =>
    have hstream : (partAt (endedItem p i) m).stream = (partAt p m).stream := by
      cases i with
      | noteOff q => rfl
      | guideOff q => rfl
      | damper n => rw [endedItem, partAt_setPart]; split <;> rfl
    rw [itemEnding, itemEnding, hstream]

theorem endedItem_rate (p : Player) (i : FlushItem) : (endedItem p i).rate = p.rate := by
  cases i with
  | noteOff q => rfl
  | guideOff q => rfl
  | damper n => rw [endedItem, setPart_frame]

/-- Items that enter after one another enter together. -/
theorem Entered.cons {i : FlushItem} {is : List FlushItem} {s t u : State} (h : Entered [i] s t) (h' : Entered is t u) :
    Entered (i :: is) s u := by
  obtain ⟨rs, hshown, hexact, ht⟩ := h
  obtain ⟨rs', hshown', hexact', hu⟩ := h'
  have hplayer : t.player = endedItem s.player i := by rw [ht]; rfl
  rw [hplayer, itemEnding_endedItem] at hshown' hexact'
  rw [endedItem_rate] at hexact'
  refine ⟨rs ++ rs', by rw [List.map_append, hshown, hshown']; rfl, fun hrate => by rw [hexact hrate, hexact' hrate]; rfl, ?_⟩
  rw [hu, ht]
  simp

theorem Entered.length {is : List FlushItem} {s t : State} (h : Entered is s t) :
    t.queue.records.length = s.queue.records.length + is.length := by
  obtain ⟨rs, hshown, -, ht⟩ := h
  have hlen : rs.length = is.length := by simpa using congrArg List.length hshown
  rw [ht, List.length_append, hlen]

/-- The records that entered stand after those that stood in the queue. -/
theorem Entered.records {is : List FlushItem} {s t : State} (h : Entered is s t) :
    (t.queue.records.drop s.queue.records.length).map shown = is.map (itemEnding s.player) ∧
    (s.player.rate ≠ 256 → t.queue.records.drop s.queue.records.length = is.map (itemEnding s.player)) ∧
    t.queue = { s.queue with records := s.queue.records ++ t.queue.records.drop s.queue.records.length } ∧
    t = { s with queue := t.queue, free := t.free, player := t.player } := by
  obtain ⟨rs, hshown, hexact, ht⟩ := h
  have hnew : t.queue.records.drop s.queue.records.length = rs := by rw [ht]; exact List.drop_left
  rw [hnew]
  refine ⟨hshown, hexact, by rw [ht], ?_⟩
  rw [ht]

theorem Entered.player {is : List FlushItem} {s t : State} (h : Entered is s t) :
    t.player = is.foldl endedItem s.player := by
  obtain ⟨rs, -, -, ht⟩ := h
  rw [ht]

theorem Entered.memory {is : List FlushItem} {s t : State} (h : Entered is s t) : t.memory = s.memory := by
  obtain ⟨rs, -, -, ht⟩ := h
  rw [ht]

/-- Items presented until the first refusal, followed by what the refusal, or the last admission, leads to. -/
def presentThen (ended refused : State → State) : List FlushItem → State → State
  | [], s => ended s
  | i :: is, s =>
    let t := presentFlushItem i s
    if t.2 then presentThen ended refused is t.1 else refused t.1

/-- With room for all, or with none to present, all enter. -/
theorem presentThen_fits (ended refused : State → State) {is : List FlushItem} {s : State}
    (h : is = [] ∨ s.queue.records.length + is.length ≤ 64) :
    ∃ t, Entered is s t ∧ presentThen ended refused is s = ended t := by
  induction is generalizing s with
  | nil => exact ⟨s, ⟨[], rfl, fun _ => rfl, by rw [List.append_nil]; rfl⟩, rfl⟩
  | cons i is ih =>
    have hlen : s.queue.records.length + is.length + 1 ≤ 64 := by simpa [← Nat.add_assoc] using h
    obtain ⟨t, hpresent, ht⟩ := presentFlushItem_admitted i (s := s) (by omega)
    obtain ⟨u, hu, hthen⟩ := ih (.inr (by rw [ht.length, List.length_singleton]; omega))
    exact ⟨u, ht.cons hu, by simp only [presentThen, hpresent, if_true, hthen]⟩

/-- With less room the first items that fit enter, up to the first refusal. -/
theorem presentThen_full (ended refused : State → State) {is : List FlushItem} {s : State} (hne : is ≠ [])
    (h : 64 < s.queue.records.length + is.length) :
    ∃ t, Entered (is.take (64 - s.queue.records.length)) s t ∧ presentThen ended refused is s = refused t := by
  induction is generalizing s with
  | nil => exact absurd rfl hne
  | cons i is ih =>
    rw [List.length_cons] at h
    rcases Nat.lt_or_ge s.queue.records.length 64 with hlen | hlen
    · obtain ⟨t, hpresent, ht⟩ := presentFlushItem_admitted i (Nat.le_of_lt_succ hlen)
      have hlength := ht.length
      rw [List.length_singleton] at hlength
      obtain ⟨u, hu, hthen⟩ := ih (s := t) (by rintro rfl; simp at h; omega) (by omega)
      have htake : 64 - s.queue.records.length = (64 - t.queue.records.length) + 1 := by omega
      rw [htake, List.take_succ_cons]
      exact ⟨u, ht.cons hu, by simp only [presentThen, hpresent, if_true, hthen]⟩
    · obtain ⟨t, hpresent, ht⟩ := presentFlushItem_refused i hlen
      rw [Nat.sub_eq_zero_of_le hlen, List.take_zero]
      exact ⟨t, ht, by simp only [presentThen, hpresent, Bool.false_eq_true, if_false]⟩

/-! ## What the items that entered have left -/

/-- The Player's sets are held in ascending order (R131). -/
def SetsAscending (p : Player) : Prop := pairsAscending p.sounding ∧ pairsAscending p.lit

theorem SetsAscending.endedItem {p : Player} (h : SetsAscending p) (i : FlushItem) : SetsAscending (endedItem p i) := by
  obtain ⟨hsounding, hlit⟩ := h
  cases i with
  | noteOff q => exact ⟨dropPair_ascending _ _ hsounding, hlit⟩
  | guideOff q => exact ⟨hsounding, dropPair_ascending _ _ hlit⟩
  | damper n => rw [Endings.endedItem, setPart_frame]; exact ⟨hsounding, hlit⟩

/-- Pairs taken out one after another are taken out together. -/
theorem foldl_dropPair {l qs : List PlayPair} (h : pairsAscending l) (hsub : qs ⊆ l) (hnd : qs.Nodup) :
    qs.foldl (fun l q => dropPair l q.part q.key) l = l.filter (fun x => decide (x ∉ qs)) := by
  induction qs generalizing l with
  | nil => simp
  | cons q qs ih =>
    obtain ⟨hq, hsub⟩ := List.cons_subset.1 hsub
    obtain ⟨hqs, hnd⟩ := List.nodup_cons.1 hnd
    have hsub' : qs ⊆ dropPair l q.part q.key := fun x hx => by
      rw [dropPair_eq_filter_ne h hq]
      simpa using ⟨hsub hx, ne_of_mem_of_not_mem hx hqs⟩
    rw [List.foldl_cons, ih (dropPair_ascending _ _ h) hsub' hnd, dropPair_eq_filter_ne h hq, List.filter_filter]
    refine List.filter_congr fun x _ => ?_
    simp only [List.mem_cons, not_or, Bool.decide_and, Bool.and_comm]

/-- NOTE_OFFs take their pairs from the sounding set. -/
theorem foldl_noteOff (qs : List PlayPair) (p : Player) : (qs.map FlushItem.noteOff).foldl endedItem p =
    { p with sounding := qs.foldl (fun l q => dropPair l q.part q.key) p.sounding } := by
  induction qs generalizing p with
  | nil => rfl
  | cons q qs ih => rw [List.map_cons, List.foldl_cons, ih]; rfl

/-- GUIDE_OFFs take their pairs from the lit set. -/
theorem foldl_guideOff (qs : List PlayPair) (p : Player) : (qs.map FlushItem.guideOff).foldl endedItem p =
    { p with lit := qs.foldl (fun l q => dropPair l q.part q.key) p.lit } := by
  induction qs generalizing p with
  | nil => rfl
  | cons q qs ih => rw [List.map_cons, List.foldl_cons, ih]; rfl

/-- DAMPER 0s change settings of parts only. -/
theorem foldl_damper_frame (ns : List Nat) (p : Player) : (ns.map FlushItem.damper).foldl endedItem p =
    { p with parts := ((ns.map FlushItem.damper).foldl endedItem p).parts } := by
  induction ns generalizing p with
  | nil => rfl
  | cons n ns ih => rw [List.map_cons, List.foldl_cons, ih, endedItem, setPart_frame]

/-- They bring the last sent dampers of their parts to 0. -/
theorem foldl_damper_partAt {n : Nat} (hn : n < 4) (ns : List Nat) (p : Player) :
    partAt ((ns.map FlushItem.damper).foldl endedItem p) n =
      if n ∈ ns then { partAt p n with lastDamper := 0 } else partAt p n := by
  induction ns generalizing p with
  | nil => rfl
  | cons m ns ih =>
    rw [List.map_cons, List.foldl_cons, ih, endedItem, partAt_setPart]
    by_cases hm : n = m
    · subst hm; simp [hn]
    · simp [hm]

/-! ## The flush (R140, R141) -/

/-- What remains of a flush, in its order. -/
def flushItems (p : Player) : List FlushItem :=
  p.sounding.map .noteOff ++ (damped p).map .damper ++ p.lit.map .guideOff

theorem flushItem_eq_head (p : Player) : flushItem p = (flushItems p).head? := by
  have hdamped : dampedPart p = (damped p).head? := (List.head?_filter ..).symm
  unfold flushItem flushItems
  rw [hdamped]
  cases p.sounding <;> cases damped p <;> cases p.lit <;> rfl

theorem damped_ascending (p : Player) : (damped p).Nodup := List.nodup_range.filter _

/-- A DAMPER 0 takes its part from those still to be sent one. -/
theorem damped_endedItem {p : Player} {n : Nat} {ns : List Nat} (h : damped p = n :: ns) :
    damped (endedItem p (.damper n)) = ns := by
  have hn : n < 4 := List.mem_range.1 (List.mem_of_mem_filter (h ▸ List.mem_cons_self : n ∈ damped p))
  have hafter : damped (endedItem p (.damper n)) = (damped p).filter (fun m => decide (m ≠ n)) := by
    rw [damped, damped, List.filter_filter]
    refine List.filter_congr fun m _ => ?_
    rw [endedItem, partAt_setPart]
    by_cases hm : m = n <;> simp [hm, hn]
  have hnd := List.nodup_cons.1 (h ▸ damped_ascending p)
  rw [hafter, h, List.filter_cons_of_neg (by simp)]
  exact List.filter_eq_self.2 fun m hm => by simpa using ne_of_mem_of_not_mem hm hnd.1

/-- The first item of a flush that has entered leaves the others. -/
theorem flushItems_endedItem {p : Player} {i : FlushItem} {is : List FlushItem} (hs : SetsAscending p)
    (h : flushItems p = i :: is) : flushItems (endedItem p i) = is := by
  obtain ⟨hsounding, hlit⟩ := hs
  cases hp : p.sounding with
  | cons q qs =>
    rw [flushItems, hp] at h
    rw [hp] at hsounding
    obtain ⟨rfl, rfl⟩ := List.cons.inj h
    simp only [flushItems, endedItem, hp, dropPair_head hsounding]
    rfl
  | nil =>
    cases hd : damped p with
    | cons n ns =>
      rw [flushItems, hp, hd] at h
      obtain ⟨rfl, rfl⟩ := List.cons.inj h
      rw [flushItems, damped_endedItem hd, endedItem, setPart_frame]
      simp only [hp]
      rfl
    | nil =>
      cases hl : p.lit with
      | nil => simp [flushItems, hp, hd, hl] at h
      | cons q qs =>
        rw [flushItems, hp, hd, hl] at h
        rw [hl] at hlit
        obtain ⟨rfl, rfl⟩ := List.cons.inj h
        have hafter : endedItem p (.guideOff q) = { p with lit := qs } := by rw [endedItem, hl, dropPair_head hlit]
        have hnone : damped { p with lit := qs } = [] := hd
        rw [hafter, flushItems, hnone, hp]
        rfl

theorem playerRun_done (n : Nat) (s : State) : playerRun n .done s = s := by cases n <;> rfl

theorem playerRun_succ (n : Nat) (w : PlayerWork) (s : State) :
    playerRun (n + 1) w s = playerRun n (playerStep w s).1 (playerStep w s).2 := by
  cases w with
  | done => exact (playerRun_done n s).symm
  | _ => rfl

/-- The flush presents its items up to the first refusal; where all enter, the decision is taken. -/
theorem playerRun_flush {n : Nat} {s : State} (hs : SetsAscending s.player) (hn : (flushItems s.player).length < n) :
    playerRun n .flush s = presentThen flushDecision id (flushItems s.player) s := by
  generalize hitems : flushItems s.player = is at hn
  induction is generalizing n s with
  | nil =>
    obtain ⟨n, rfl⟩ := Nat.exists_eq_succ_of_ne_zero (Nat.ne_of_gt hn)
    rw [playerRun_succ, playerStep, flushStep, flushItem_eq_head, hitems]
    exact playerRun_done n _
  | cons i is ih =>
    obtain ⟨n, rfl⟩ := Nat.exists_eq_succ_of_ne_zero (Nat.ne_of_gt (Nat.zero_lt_of_lt hn))
    rw [playerRun_succ, playerStep, flushStep, flushItem_eq_head, hitems]
    rcases Nat.lt_or_ge s.queue.records.length 64 with hlen | hlen
    · obtain ⟨t, hpresent, ht⟩ := presentFlushItem_admitted i (Nat.le_of_lt_succ hlen)
      have hplayer : t.player = endedItem s.player i := ht.player
      simp only [List.head?_cons, presentThen, hpresent, if_true]
      exact ih (hplayer ▸ hs.endedItem i) (by rw [hplayer, flushItems_endedItem hs hitems]) (by simpa using hn)
    · obtain ⟨t, hpresent, -⟩ := presentFlushItem_refused i hlen
      simp only [List.head?_cons, presentThen, hpresent, Bool.false_eq_true, if_false]
      exact playerRun_done n t

/-- The fuel of the Player's work is enough for a flush. -/
theorem flushItems_lt_fuel (s : State) : (flushItems s.player).length < playerFuel s := by
  have hdamped : (damped s.player).length ≤ 4 := (List.length_filter_le _ _).trans (by simp)
  simp only [flushItems, List.length_append, List.length_map, playerFuel]
  omega

theorem runFlush_eq {s : State} (hs : SetsAscending s.player) :
    runFlush s = presentThen flushDecision id (flushItems s.player) s := playerRun_flush hs (flushItems_lt_fuel s)

/-- The first `k` items of a flush. -/
theorem take_flushItems (k : Nat) (p : Player) : (flushItems p).take k =
    (p.sounding.take k).map .noteOff ++ ((damped p).take (k - p.sounding.length)).map .damper ++
      (p.lit.take (k - p.sounding.length - (damped p).length)).map .guideOff := by
  simp [flushItems, List.take_append, List.map_take, Nat.sub_sub]

/-- What the first `k` items of a flush leave in the Player. -/
theorem foldl_take_flushItems (k : Nat) {p : Player} (hs : SetsAscending p) :
    let q := ((flushItems p).take k).foldl endedItem p
    q = { p with
      sounding := p.sounding.drop k
      lit := p.lit.drop (k - p.sounding.length - (damped p).length)
      parts := q.parts } ∧
    ∀ n < 4, partAt q n =
      if n ∈ (damped p).take (k - p.sounding.length) then { partAt p n with lastDamper := 0 } else partAt p n := by
  obtain ⟨hsounding, hlit⟩ := hs
  have hset (l : List PlayPair) (hl : pairsAscending l) (j : Nat) :
      (l.take j).foldl (fun l q => dropPair l q.part q.key) l = l.drop j := by
    have hnd := pairsAscending_nodup hl
    rw [foldl_dropPair hl (List.take_subset j l) (hnd.sublist (List.take_sublist j l)), filter_notMem_take hnd]
  let p1 : Player := { p with sounding := p.sounding.drop k }
  let p2 := (((damped p).take (k - p.sounding.length)).map FlushItem.damper).foldl endedItem p1
  have hp2 : p2 = { p1 with parts := p2.parts } := foldl_damper_frame _ p1
  have hq : ((flushItems p).take k).foldl endedItem p =
      { p2 with lit := p.lit.drop (k - p.sounding.length - (damped p).length) } := by
    rw [take_flushItems, List.foldl_append, List.foldl_append, foldl_noteOff, hset _ hsounding, foldl_guideOff]
    change { p2 with lit := List.foldl _ p2.lit _ } = _
    rw [show p2.lit = p.lit by rw [hp2], hset _ hlit]
  intro q
  refine ⟨?_, fun n hn => ?_⟩
  · rw [show q = _ from hq, hp2]
  · rw [show q = _ from hq]
    exact foldl_damper_partAt hn _ p1

/-- Nothing of a set remains that takes part in a flush whose items all enter. -/
theorem foldl_flushItems {p : Player} (hs : SetsAscending p) :
    let q := (flushItems p).foldl endedItem p
    q = { p with sounding := [], lit := [], parts := q.parts } ∧
    ∀ n < 4, partAt q n = { partAt p n with lastDamper := 0 } := by
  have hlength : (flushItems p).length = p.sounding.length + (damped p).length + p.lit.length := by
    simp [flushItems, Nat.add_assoc]
  obtain ⟨hframe, hparts⟩ := foldl_take_flushItems (flushItems p).length hs
  rw [List.take_length] at hframe hparts
  rw [List.drop_of_length_le (by omega), List.drop_of_length_le (by omega)] at hframe
  rw [List.take_of_length_le (by omega)] at hparts
  refine ⟨hframe, fun n hn => (hparts n hn).trans ?_⟩
  split
  · rfl
  · rename_i hmem
    have hzero : (partAt p n).lastDamper = 0 := by simpa [damped, hn] using hmem
    rw [← hzero]

/-- The decision at the end of a flush, as it is stated. -/
theorem flushDecision_eq {dest : FlushDest} {s : State} (h : s.player.flushDest = some dest) :
    flushDecision s = decided dest s := by
  have hannounce (t : State) : announce t = announced t := by simp [announce, announced, startClick]
  cases dest with
  | stop => simp only [flushDecision, h]; rfl
  | locate bar => simp only [flushDecision, h]; rfl
  | endOfTake =>
    simp only [flushDecision, h, decided]
    split
    · rfl
    · split <;> rfl
  | endOfPass => 
    simp only [flushDecision, h, decided]
    split
    · rfl
    · split
      · rfl
      · split
        · rfl
        · split
          · rfl
          · exact hannounce _

/-- Every decision leaves FLUSHING. -/
theorem decided_not_flushing (dest : FlushDest) (s : State) : (decided dest s).player.state ≠ .flushing := by
  have hstopped (p : Player) : (Sys2Proof.Claims.stopped p).state = .stopped := by
    unfold Sys2Proof.Claims.stopped; split <;> rfl
  have hhalted (n : Nat) (t : State) : (halted n t).player.state ≠ .flushing := by
    rw [halted, raiseNotice_player]; simp [hstopped]
  have hannounced (t : State) : (announced t).player = t.player := by unfold announced; split <;> rfl
  cases dest with
  | stop => exact hhalted 0 s
  | locate bar => simp [decided, Sys2Proof.Claims.locating]
  | endOfTake =>
    simp only [decided]
    split
    · simp [Sys2Proof.Claims.locating]
    · exact hhalted _ s
  | endOfPass =>
    simp only [decided]
    split_ifs
    · simp [Sys2Proof.Claims.locating]
    · exact hhalted 1 s
    · simp [Sys2Proof.Claims.locating]
    · exact hhalted 1 s
    · simp [hannounced]

/-- FLUSH_END is due where the flush run from this moment leaves FLUSHING. -/
theorem exec_flushEnd (s : State) : exec .flushEnd s =
    .next (if s.player.state = .flushing ∧ (runFlush s).player.state ≠ .flushing then runFlush s else s) := rfl

/-- Settles O47: the items enter up to the first refusal, and where there is none the decision follows. -/
theorem flushEndSendsWhatRemainsAndDecides : Obligations.FlushEndSendsWhatRemainsAndDecides := by
  intro dest s hstate hdest hsounding hlit items
  have hs : SetsAscending s.player := ⟨hsounding, hlit⟩
  have hitems : items = (flushItems s.player).map (itemEnding s.player) := by
    simp only [items, flushItems, List.map_append, List.map_map]; rfl
  have hlength : items.length = (flushItems s.player).length := by rw [hitems, List.length_map]
  have hempty : items = [] ↔ flushItems s.player = [] := by rw [hitems, List.map_eq_nil_iff]
  refine ⟨fun hfits => ?fits, fun hne hfull => ?full⟩
  case fits =>
    rw [hempty, hlength] at hfits
    obtain ⟨u, hentered, hrun⟩ := presentThen_fits flushDecision id hfits
    obtain ⟨hshown, hexact, hqueue, hu⟩ := hentered.records
    obtain ⟨hframe, hdampers⟩ := foldl_flushItems hs
    rw [← hentered.player] at hframe hdampers
    have hdest' : u.player.flushDest = some dest := by rw [hframe]; exact hdest
    rw [← runFlush_eq hs, flushDecision_eq hdest'] at hrun
    refine ⟨u, decided dest u, ?_, rfl, hshown.trans hitems.symm, fun hrate => (hexact hrate).trans hitems.symm, hqueue,
      by rw [hframe], by rw [hframe], hdampers, ?_⟩
    · rw [exec_flushEnd, hrun, if_pos ⟨hstate, decided_not_flushing dest u⟩]
    · rw [← hframe]; exact hu
  case full =>
    rw [Ne, hempty] at hne
    rw [hlength] at hfull
    intro room left u
    obtain ⟨t, hentered, hrun⟩ := presentThen_full flushDecision id hne hfull
    obtain ⟨hshown, hexact, hqueue, ht⟩ := hentered.records
    obtain ⟨hframe, hdampers⟩ := foldl_take_flushItems room hs
    rw [← hentered.player] at hframe hdampers
    have hu : u = t := (runFlush_eq hs).trans hrun
    have htake : ((flushItems s.player).take room).map (itemEnding s.player) = items.take room := by
      rw [hitems, List.map_take]
    rw [hu]
    refine ⟨?_, hshown.trans htake, fun hrate => (hexact hrate).trans htake, hdampers, ?_⟩
    · have hstill : t.player.state = .flushing := by rw [hframe]; exact hstate
      rw [exec_flushEnd, if_neg fun hdue => hdue.2 (by rw [show runFlush s = t from hu, hstill])]
    · rw [← hqueue, ← hframe]; exact ht

/-! ## The part clean-up (R137) -/

/-- Whether a sounding pair's part is no longer PLAY. -/
def offDue (p : Player) (q : PlayPair) : Bool := !decide ((partAt p q.part).mode = .play)

/-- Whether a lit pair's part is no longer GUIDE. -/
def lightDue (p : Player) (q : PlayPair) : Bool := !decide ((partAt p q.part).mode = .guide)

/-- What the part clean-up presents, in its order. -/
def cleanupItems (p : Player) : List FlushItem :=
  (p.sounding.filter (offDue p)).map .noteOff ++ (p.lit.filter (lightDue p)).map .guideOff

theorem cleanupItem_eq_head (p : Player) : cleanupItem p = (cleanupItems p).head? := by
  have hoff : p.sounding.find? (fun q => decide ((partAt p q.part).mode ≠ .play)) = (p.sounding.filter (offDue p)).head? := by
    simp only [List.head?_filter, decide_not, ne_eq]; rfl
  have hlight : p.lit.find? (fun q => decide ((partAt p q.part).mode ≠ .guide)) = (p.lit.filter (lightDue p)).head? := by
    simp only [List.head?_filter, decide_not, ne_eq]; rfl
  unfold cleanupItem cleanupItems
  rw [hoff, hlight]
  cases p.sounding.filter (offDue p) <;> cases p.lit.filter (lightDue p) <;> rfl

/-- A pair leaves a set and what is chosen of it alike. -/
theorem filter_dropPair {l : List PlayPair} {q : PlayPair} {qs : List PlayPair} {f : PlayPair → Bool}
    (h : pairsAscending l) (hf : l.filter f = q :: qs) : (dropPair l q.part q.key).filter f = qs := by
  have hcomm : (dropPair l q.part q.key).filter f = dropPair (l.filter f) q.part q.key := by
    rw [dropPair, dropPair, List.filter_comm]
  rw [hcomm, hf]
  exact dropPair_head (hf ▸ List.Pairwise.filter f h)

/-- The first item of a clean-up that has entered leaves the others. -/
theorem cleanupItems_endedItem {p : Player} {i : FlushItem} {is : List FlushItem} (hs : SetsAscending p)
    (h : cleanupItems p = i :: is) : cleanupItems (endedItem p i) = is := by
  obtain ⟨hsounding, hlit⟩ := hs
  cases ho : p.sounding.filter (offDue p) with
  | cons q qs =>
    rw [cleanupItems, ho] at h
    obtain ⟨rfl, rfl⟩ := List.cons.inj h
    have hrest : (endedItem p (.noteOff q)).sounding.filter (offDue (endedItem p (.noteOff q))) = qs :=
      filter_dropPair hsounding ho
    rw [cleanupItems, hrest]
    rfl
  | nil =>
    cases hl : p.lit.filter (lightDue p) with
    | nil => simp [cleanupItems, ho, hl] at h
    | cons q qs =>
      rw [cleanupItems, ho, hl] at h
      obtain ⟨rfl, rfl⟩ := List.cons.inj h
      have hrest : (endedItem p (.guideOff q)).lit.filter (lightDue (endedItem p (.guideOff q))) = qs :=
        filter_dropPair hlit hl
      have hnone : (endedItem p (.guideOff q)).sounding.filter (offDue (endedItem p (.guideOff q))) = [] := ho
      rw [cleanupItems, hrest, hnone]
      rfl

/-- What a clean-up does after a refusal: a held frame (R135), then the pruning (log 49). -/
def cleanupHeld (count : Nat) (s : State) : State := pruneExpected (holdFrame count s)

/-- The clean-up presents its items up to the first refusal, and prunes the expected set. -/
theorem runCleanup_eq {n count : Nat} {s : State} (hs : SetsAscending s.player) (hcount : s.memory.take.header.count = count)
    (hn : (cleanupItems s.player).length < n) :
    runCleanup n s = presentThen pruneExpected (cleanupHeld count) (cleanupItems s.player) s := by
  generalize hitems : cleanupItems s.player = is at hn
  induction is generalizing n s with
  | nil =>
    obtain ⟨n, rfl⟩ := Nat.exists_eq_succ_of_ne_zero (Nat.ne_of_gt hn)
    have hstep : cleanupStep s =
        (if (pruneExpected s).player.state = .running then .advance else .done, pruneExpected s) := by
      rw [cleanupStep, cleanupItem_eq_head, hitems]; rfl
    rw [runCleanup, hstep]
    split <;> rename_i h
    · split at h <;> cases h
    · rfl
  | cons i is ih =>
    obtain ⟨n, rfl⟩ := Nat.exists_eq_succ_of_ne_zero (Nat.ne_of_gt (Nat.zero_lt_of_lt hn))
    rcases Nat.lt_or_ge s.queue.records.length 64 with hlen | hlen
    · obtain ⟨t, hpresent, ht⟩ := presentFlushItem_admitted i (Nat.le_of_lt_succ hlen)
      have hplayer : t.player = endedItem s.player i := ht.player
      have hstep : cleanupStep s = (.cleanup, t) := by
        rw [cleanupStep, cleanupItem_eq_head, hitems]
        simp only [List.head?_cons, hpresent, if_true]
      rw [runCleanup, hstep]
      simp only [presentThen, hpresent, if_true]
      exact ih (hplayer ▸ hs.endedItem i) (ht.memory ▸ hcount) (by rw [hplayer, cleanupItems_endedItem hs hitems])
        (by simpa using hn)
    · obtain ⟨t, hpresent, -⟩ := presentFlushItem_refused i hlen
      have hstep : cleanupStep s = (.done, cleanupHeld count t) := by
        rw [cleanupStep, cleanupItem_eq_head, hitems]
        simp only [List.head?_cons, hpresent, Bool.false_eq_true, if_false, takeArea, hcount]
        rfl
      rw [runCleanup, hstep]
      simp only [presentThen, hpresent, Bool.false_eq_true, if_false]

theorem exec_partCleanup {s : State} (hstate : s.player.state = .waiting ∨ s.player.state = .running)
    (hs : SetsAscending s.player) :
    exec .partCleanup s =
      .next (presentThen pruneExpected (cleanupHeld s.memory.take.header.count) (cleanupItems s.player) s) := by
  have hfuel : (cleanupItems s.player).length < playerFuel s := by
    have hoffs := List.length_filter_le (offDue s.player) s.player.sounding
    have hlights := List.length_filter_le (lightDue s.player) s.player.lit
    simp only [cleanupItems, List.length_append, List.length_map, playerFuel]
    omega
  change execPartCleanup s = _
  rw [execPartCleanup, if_pos hstate, runCleanup_eq hs rfl hfuel]

/-- What the first `k` items of a clean-up leave in the Player. -/
theorem foldl_take_cleanupItems (k : Nat) {p : Player} (hs : SetsAscending p) :
    let offs := p.sounding.filter (offDue p)
    let lights := p.lit.filter (lightDue p)
    ((cleanupItems p).take k).foldl endedItem p = { p with
      sounding := p.sounding.filter (fun q => decide (q ∉ offs.take k))
      lit := p.lit.filter (fun q => decide (q ∉ lights.take (k - offs.length))) } := by
  obtain ⟨hsounding, hlit⟩ := hs
  intro offs lights
  have hset (l : List PlayPair) (hl : pairsAscending l) (f : PlayPair → Bool) (j : Nat) :
      ((l.filter f).take j).foldl (fun l q => dropPair l q.part q.key) l =
        l.filter (fun q => decide (q ∉ (l.filter f).take j)) :=
    foldl_dropPair hl (List.Subset.trans (List.take_subset j _) (List.filter_subset_self l))
      (((pairsAscending_nodup hl).filter f).sublist (List.take_sublist j _))
  have htake : (cleanupItems p).take k =
      (offs.take k).map .noteOff ++ (lights.take (k - offs.length)).map .guideOff := by
    simp [cleanupItems, offs, lights, List.take_append, List.map_take]
  rw [htake, List.foldl_append, foldl_noteOff, foldl_guideOff, hset _ hsounding, hset _ hlit]

/-- A clean-up whose items all enter leaves the pairs whose parts are as they were. -/
theorem foldl_cleanupItems {p : Player} (hs : SetsAscending p) : (cleanupItems p).foldl endedItem p = { p with
    sounding := p.sounding.filter (fun q => decide ((partAt p q.part).mode = .play))
    lit := p.lit.filter (fun q => decide ((partAt p q.part).mode = .guide)) } := by
  have hkept (l : List PlayPair) (f : PlayPair → Bool) :
      l.filter (fun q => decide (q ∉ l.filter f)) = l.filter (fun q => !f q) :=
    List.filter_congr fun q hq => by simp [hq]
  have h := foldl_take_cleanupItems (cleanupItems p).length hs
  dsimp only at h
  have hlength : (cleanupItems p).length = (p.sounding.filter (offDue p)).length + (p.lit.filter (lightDue p)).length := by
    simp [cleanupItems]
  rw [List.take_length, List.take_of_length_le (by omega), List.take_of_length_le (by omega), hkept, hkept] at h
  simpa only [offDue, lightDue, Bool.not_not] using h

/-! ## Held frames (R135) -/

/-- A held frame counts, saturating at 15, and raises LAG where the counter reaches 15 with the flag ARMED. -/
theorem holdFrame_eq (slot : Nat) {s : State} (hold : s.player.hold ≤ 15) : holdFrame slot s =
    let held : State := { s with player := { s.player with hold := min 15 (s.player.hold + 1) } }
    if 14 ≤ s.player.hold ∧ s.player.lag = .armed then
      raiseNotice .lag (leBytes 4 (s.player.pos / 256) ++ leBytes 2 slot)
        { held with player := { held.player with lag := .sent } }
    else held := by
  have hfifteen : satInc 15 s.player.hold = 15 ↔ 14 ≤ s.player.hold := by unfold satInc; omega
  simp only [holdFrame, hfifteen]
  rfl

/-- The Player after the pruning of the expected set (R137). -/
def prunedPlayer (p : Player) : Player :=
  let left := p.expected.filter (fun e => decide ((partAt p e.1).mode = .guide))
  { p with
    expected := left
    state := if p.state = .waiting ∧ p.expected ≠ [] ∧ left = [] then .running else p.state }

theorem pruneExpected_eq (s : State) : pruneExpected s = { s with player := prunedPlayer s.player } := rfl

/-- The pruning of a state that differs from `s` in what items entered have changed. -/
theorem pruneExpected_set (q : EventQueue) (n : Nat) (p : Player) (s : State) :
    pruneExpected { s with queue := q, free := n, player := p } =
      { s with queue := q, free := n, player := prunedPlayer p } := rfl

/-- What a notice adds does not depend on the queue, the free values or the Player. -/
theorem raiseNotice_set (kind : NoticeKind) (data : List Byte) (q : EventQueue) (n : Nat) (p : Player) (s : State) :
    raiseNotice kind data { s with queue := q, free := n, player := p } =
      { raiseNotice kind data s with queue := q, free := n, player := p } := by
  unfold raiseNotice; split <;> rfl

/-- The clean-up's held frame, of a state that differs from `s` in what items entered have changed. -/
theorem cleanupHeld_eq (count : Nat) (q : EventQueue) (n : Nat) {p : Player} (s : State) (hold : p.hold ≤ 15) :
    cleanupHeld count { s with queue := q, free := n, player := p } =
      { (if 14 ≤ p.hold ∧ p.lag = .armed then
          raiseNotice .lag (leBytes 4 (p.pos / 256) ++ leBytes 2 count) s else s) with
        queue := q
        free := n
        player := { prunedPlayer p with
          hold := min 15 (p.hold + 1), lag := if 14 ≤ p.hold ∧ p.lag = .armed then .sent else p.lag } } := by
  rw [cleanupHeld, holdFrame_eq count (s := { s with queue := q, free := n, player := p }) hold]
  by_cases hlag : 14 ≤ p.hold ∧ p.lag = .armed
  · simp only [if_pos hlag, raiseNotice_set, pruneExpected_eq]
    rfl
  · simp only [if_neg hlag, pruneExpected_eq]
    rfl

/-- Settles O50: the items enter up to the first refusal, which makes a held frame; the pruning follows in either case. -/
theorem partCleanupEndsTheNotesOfChangedParts : Obligations.PartCleanupEndsTheNotesOfChangedParts := by
  intro s hstate hsounding hlit p plays guides items left waits
  have hs : SetsAscending s.player := ⟨hsounding, hlit⟩
  have hitems : items = (cleanupItems s.player).map (itemEnding s.player) := by
    simp only [items, cleanupItems, List.map_append, List.map_map]; rfl
  have hlength : items.length = (cleanupItems s.player).length := by rw [hitems, List.length_map]
  have hempty : items = [] ↔ cleanupItems s.player = [] := by rw [hitems, List.map_eq_nil_iff]
  refine ⟨fun hfits => ?fits, fun hne hfull hhold => ?full⟩
  case fits =>
    rw [hempty, hlength] at hfits
    obtain ⟨u, hentered, hrun⟩ := presentThen_fits pruneExpected (cleanupHeld s.memory.take.header.count) hfits
    obtain ⟨hshown, hexact, hqueue, hu⟩ := hentered.records
    have hframe := hentered.player.trans (foldl_cleanupItems hs)
    have hended := pruneExpected_set u.queue u.free u.player s
    rw [← hu] at hended
    refine ⟨_, (exec_partCleanup hstate hs).trans (congrArg _ (hrun.trans hended)), hshown.trans hitems.symm,
      fun hrate => (hexact hrate).trans hitems.symm, ?_⟩
    dsimp only
    rw [← hqueue, hframe]
    rfl
  case full =>
    rw [Ne, hempty] at hne
    rw [hlength] at hfull
    intro room offs lights lagging held
    obtain ⟨u, hentered, hrun⟩ := presentThen_full pruneExpected (cleanupHeld s.memory.take.header.count) hne hfull
    obtain ⟨hshown, hexact, hqueue, hu⟩ := hentered.records
    have hframe := hentered.player.trans (foldl_take_cleanupItems room hs)
    have htake : ((cleanupItems s.player).take room).map (itemEnding s.player) = items.take room := by
      rw [hitems, List.map_take]
    have hheld := cleanupHeld_eq s.memory.take.header.count u.queue u.free (p := u.player) s (by rw [hframe]; exact hhold)
    rw [← hu] at hheld
    refine ⟨_, (exec_partCleanup hstate hs).trans (congrArg _ (hrun.trans hheld)), hshown.trans htake,
      fun hrate => (hexact hrate).trans htake, ?_⟩
    dsimp only
    rw [← hqueue, hframe]
    rfl

end Sys2Proof.Proofs.Endings

/-! PROOFS. Chapter 05: the release of a tick as it meets the Event Queue (R132 to R135), and the gathering of a chord (R146).
First the advance and the run of the Player's work, then one equation per case of the release of one record, then the release of
all the records due, the chord, and the statement. -/

namespace Sys2Proof.Proofs.Release

open Sys2Proof.Machine
open Sys2Proof.Claims (advanced)
open Sys2Proof.Proofs.Pedals (mapVec_getElem)
open Sys2Proof.Proofs.Endings (playerRun_done playerRun_succ pruneExpected_eq prunedPlayer)

/-! ## Positions and ends of an area (R115) -/

theorem positionOf_mono (slots : Slots) {i j : Nat} (h : i ≤ j) : positionOf slots i ≤ positionOf slots j := by
  induction slots with
  | nil => rfl
  | cons e l ih =>
    unfold positionOf at *
    by_cases hi : e.1 ≤ i
    · simpa [hi, hi.trans h] using ih
    · by_cases hj : e.1 ≤ j
      · simp [hi, hj]; omega
      · simpa [hi, hj] using ih

theorem firstEnd_le_count (a : Area) : firstEnd a ≤ a.header.count := by
  unfold firstEnd
  cases h : (List.range a.header.count).find? (fun i => decide ((slotAt a.slots i).kind = .endMark)) with
  | none => exact le_refl _
  | some i => exact Nat.le_of_lt (List.mem_range.1 (List.mem_of_find?_eq_some h))

/-! ## Moving the position (R133, R149) -/

theorem beatReached_le (s : State) (q : Nat) : beatReached s q ≤ q := Nat.div_mul_le_self q _

/-- The position moved, and the amount handed to the recorder. -/
def movedTo (q : Nat) (s : State) : State := recorderAdvance (q - s.player.pos) (s.mapPlayer (fun p => { p with pos := q }))

theorem advanceTo_crossing {q : Nat} {s : State} (hbeat : s.player.pos < beatReached s q) (hlimit : belowLimit s q = true) :
    advanceTo q s = crossBeat (beatReached s q) (movedTo q s) := by
  have hbelow : belowLimit s (beatReached s q) = true := by
    simp only [belowLimit, Bool.or_eq_true, decide_eq_true_eq] at hlimit ⊢
    exact hlimit.imp_right (lt_of_le_of_lt (beatReached_le s q))
  exact if_pos ⟨hbeat, hbelow⟩

theorem advanceTo_between {q : Nat} {s : State} (hbeat : ¬ s.player.pos < beatReached s q) : advanceTo q s = movedTo q s :=
  if_neg fun h => hbeat h.1

/-- A position that stands is advanced by nothing. -/
theorem advanceTo_here {q : Nat} {s : State} (h : q = s.player.pos) : advanceTo q s = s := by
  subst h
  rw [advanceTo_between (Nat.not_lt.2 (beatReached_le s _)), movedTo, Nat.sub_self, recorderAdvance]
  split
  · rename_i hbase
    rw [State.mapPlayer_recorder] at hbase
    simp only [Nat.add_zero, State.mapPlayer_recorder, ← hbase]
    rfl
  · rfl

theorem movedTo_eq (q : Nat) (s : State) : movedTo q s = { s with
    player := { s.player with pos := q }
    recorder := (movedTo q s).recorder } := by
  unfold movedTo recorderAdvance
  split <;> rfl

/-- The recorder after an advance, as it is stated. -/
theorem movedTo_recorder (q : Nat) (s : State) : (movedTo q s).recorder = (advanced q s).recorder := by
  unfold movedTo recorderAdvance advanced
  simp only [State.mapPlayer_recorder]
  cases hstate : s.recorder.state with
  | idle => simp
  | armed => simp
  | recording =>
    cases hbase : s.recorder.base with
    | none => simp
    | some b => cases b <;> simp

/-- The Mixer after a beat, with the click started where the metronome is on (R150). -/
def beatMixer (first : Bool) (p : Player) (m : Mixer) : Mixer :=
  let click : Click :=
    { beatOne := first, amplitude := if first then 2 * p.clickLevel else p.clickLevel, next := 0, cut := false }
  if p.metronome = true then { m with click := some click } else m

theorem startClick_eq (beat : Nat) (s : State) :
    startClick beat s = { s with mixer := beatMixer (decide (beat = 1)) s.player s.mixer } := by
  simp only [startClick, beatMixer, decide_eq_true_eq]
  split <;> rfl

/-- The Mixer after a bar crossing, with an AT_BAR balance change triggered (R157). -/
def barMixer (m : Mixer) : Mixer :=
  match m.pendingBal with
  | some { target := b, frames := n, trigger := .atBar } =>
    if n = 0 then { m with pendingBal := none, bal := b, fade := none }
    else { m with pendingBal := none, fade := some { target := b, remaining := n } }
  | _ => m

theorem handCause_barCrossing (s : State) : handCause .barCrossing s = { s with mixer := barMixer s.mixer } := by
  cases hpending : s.mixer.pendingBal with
  | none => simp [handCause, balanceDue, barMixer, hpending]
  | some b =>
    obtain ⟨target, frames, trigger⟩ := b
    cases trigger <;> simp [handCause, balanceDue, balanceTriggered, triggerBalance, barMixer, hpending]

/-- A beat crossing, which is a bar crossing where it lies on a bar (R149). -/
theorem crossBeat_eq (m : Nat) (s : State) : crossBeat m s =
    let beat := beatMixer (decide (m / beatUnits s % s.memory.take.header.beats = 0)) s.player s.mixer
    { s with mixer := if m % (s.memory.take.header.barLen * 256) = 0 then barMixer beat else beat } := by
  have hfirst : decide (m / beatUnits s % (takeArea s).header.beats + 1 = 1) =
      decide (m / beatUnits s % s.memory.take.header.beats = 0) := by simp [takeArea]
  simp only [crossBeat, startClick_eq, handCause_barCrossing, hfirst]
  by_cases hbar : m % (s.memory.take.header.barLen * 256) = 0
  · exact (if_pos hbar).trans (by rw [if_pos hbar])
  · exact (if_neg hbar).trans (by rw [if_neg hbar])

/-- The Mixer after an advance that crosses a beat, as it is stated. -/
theorem advanced_mixer_crossing {q : Nat} {s : State} (hbeat : s.player.pos < beatReached s q) : (advanced q s).mixer =
    let m := beatReached s q
    let beat := beatMixer (decide (m / beatUnits s % s.memory.take.header.beats = 0)) s.player s.mixer
    if m % (s.memory.take.header.barLen * 256) = 0 then barMixer beat else beat := by
  have hpending (first : Bool) : (beatMixer first s.player s.mixer).pendingBal = s.mixer.pendingBal := by
    unfold beatMixer; dsimp only; split <;> rfl
  simp only [beatReached, beatUnits, takeArea] at hbeat
  simp only [advanced, hbeat, true_and, barMixer, hpending, beatReached, beatUnits, takeArea]
  rfl

/-- An advance that crosses no beat leaves the Mixer. -/
theorem advanced_mixer_between {q : Nat} {s : State} (hbeat : ¬ s.player.pos < beatReached s q) :
    (advanced q s).mixer = s.mixer := by
  simp only [beatReached, beatUnits, takeArea] at hbeat
  simp only [advanced, hbeat, false_and, if_false]

/-- An advance changes the position, the Mixer and the recorder. -/
theorem advanced_frame (q : Nat) (s : State) : advanced q s = { s with
    player := { s.player with pos := q }
    mixer := (advanced q s).mixer
    recorder := (advanced q s).recorder } := rfl

/-- An advance below the limit moves the position as it is stated. -/
theorem advanceTo_eq {q : Nat} {s : State} (hlimit : belowLimit s q = true) : advanceTo q s = advanced q s := by
  by_cases hbeat : s.player.pos < beatReached s q
  · rw [advanceTo_crossing hbeat hlimit, crossBeat_eq, advanced_frame, advanced_mixer_crossing hbeat, movedTo_eq,
      movedTo_recorder]
    rfl
  · rw [advanceTo_between hbeat, advanced_frame, advanced_mixer_between hbeat, movedTo_eq, movedTo_recorder]

/-! ## The run of the Player's work (R132) -/

/-- The Player's work from `w` on ends in `t` in at most `k` pieces. -/
def RunsTo (k : Nat) (w : PlayerWork) (s t : State) : Prop := ∀ n, k ≤ n → playerRun n w s = t

theorem RunsTo.done (s : State) : RunsTo 0 .done s s := fun n _ => playerRun_done n s

theorem RunsTo.step {k : Nat} {w w' : PlayerWork} {s s' t : State} (hstep : playerStep w s = (w', s'))
    (h : RunsTo k w' s' t) : RunsTo (k + 1) w s t := by
  intro n hn
  obtain ⟨n, rfl⟩ := Nat.exists_eq_add_of_le' (Nat.le_trans (Nat.le_add_left 1 k) hn)
  rw [playerRun_succ, hstep]
  exact h n (Nat.le_of_succ_le_succ hn)

/-- The advance of a tick is the release toward the new position. -/
theorem RunsTo.advance {k : Nat} {s t : State} (h : RunsTo k (.release (s.player.pos + s.player.rate)) s t) :
    RunsTo (k + 1) .advance s t := .step rfl h

/-- Where nothing is expected, nothing is pruned. -/
theorem prunedPlayer_nil {p : Player} (h : p.expected = []) : prunedPlayer p = p := by
  have hp : p = { p with expected := [] } := by rw [← h]
  rw [hp]
  simp [prunedPlayer]

/-- With nothing expected and nothing to clean up, the work of a RUNNING Player at a tick is its advance. -/
theorem RunsTo.body {k : Nat} {s t : State} (hstate : s.player.state = .running) (hexpected : s.player.expected = [])
    (hclean : cleanupItem s.player = none) (h : RunsTo k .advance s t) : RunsTo (k + 2) (.body false) s t := by
  have hkeep : pruneExpected s = s := by rw [pruneExpected_eq, prunedPlayer_nil hexpected]
  refine .step (w' := .cleanup) (s' := s) ?_ (.step (w' := .advance) (s' := s) ?_ h)
  · simp only [playerStep, bodyStep, hstate]
  · simp only [playerStep, cleanupStep, hclean, hkeep, hstate, if_true]

/-- Where no part has a pending setting, the settings stand. -/
theorem applySettings_none {s : State} (h : ∀ n < 4, (partAt s.player n).pending = none) : applySettings s = s := by
  have hparts : mapVec applyPart s.player.parts = s.player.parts := by
    refine Vector.ext fun n hn => ?_
    have hpart : partAt s.player n = s.player.parts[n] := by simp [partAt, hn]
    have hpending := h n hn
    rw [hpart] at hpending
    rw [mapVec_getElem, applyPart, hpending]
  rw [applySettings, State.mapPlayer, hparts]

/-- So is the whole of its work at a tick where no part has a pending setting. -/
theorem RunsTo.cue {k : Nat} {s t : State} (hpending : ∀ n < 4, (partAt s.player n).pending = none)
    (h : RunsTo k (.body false) s t) : RunsTo (k + 2) (.cue false) s t := by
  refine .step (w' := .settings false) (s' := s) ?_ (.step (w' := .body false) (s' := s) ?_ h)
  · simp only [playerStep, Bool.false_eq_true, false_and, if_false]
  · simp only [playerStep, applySettings_none hpending]

/-- HELD_RECORD_RETRY is the advance of a RUNNING Player after a held frame, with nothing to clean up. -/
theorem exec_heldRecordRetry {k : Nat} {s t : State} (hstate : s.player.state = .running) (hheld : 0 < s.player.hold)
    (hclean : cleanupItem s.player = none) (hfuel : k ≤ playerFuel s) (h : RunsTo k .advance s t) :
    exec .heldRecordRetry s = .next t := by
  change execHeldRecordRetry s = _
  rw [execHeldRecordRetry, if_pos ⟨hstate, hheld, hclean⟩, h _ hfuel]

/-- LAG is due where the work of the tick reports it. -/
theorem exec_lag {k : Nat} {s t : State} (harmed : s.player.lag = .armed) (hsent : t.player.lag = .sent)
    (hfuel : k ≤ playerFuel s) (h : RunsTo k (.body false) s t) : exec .lag s = .next t := by
  change execLag s = _
  simp only [execLag, h _ hfuel, harmed, hsent, and_self, if_true]

theorem fuel_ge (s : State) : s.memory.take.header.count + 64 ≤ playerFuel s := by
  simp only [playerFuel, takeArea]; omega

/-! ## The release of one record (R134, R135) -/

/-- The record at the read index is due by `newPos`. -/
theorem releasable_iff (newPos : Nat) (s : State) : releasable newPos s = true ↔
    s.player.readIdx < firstEnd s.memory.take ∧ positionOf s.memory.take.slots s.player.readIdx * 256 ≤ newPos ∧
      belowLimit s (positionOf s.memory.take.slots s.player.readIdx * 256) = true := by
  rw [releasable, Bool.and_eq_true, Bool.and_eq_true, decide_eq_true_eq, decide_eq_true_eq, and_assoc]
  rfl

section Step

variable {newPos : Nat} {s : State}

/-- The record at the read index. -/
abbrev nextRecord (s : State) : TakeRecord := slotAt s.memory.take.slots s.player.readIdx

theorem releaseStep_skip (hdue : releasable newPos s = true) (h : handlingOf s (nextRecord s) = .skip) :
    playerStep (.release newPos) s = (.release newPos, pastRecord s) := by
  have h' : handlingOf s (slotAt (takeArea s).slots s.player.readIdx) = .skip := h
  simp only [playerStep, releaseStep, hdue, if_true, h']

theorem releaseStep_gather (hdue : releasable newPos s = true) (h : handlingOf s (nextRecord s) = .gather) :
    playerStep (.release newPos) s = (.guideOns (chordOf s).notes, gatherChord s) := by
  have h' : handlingOf s (slotAt (takeArea s).slots s.player.readIdx) = .gather := h
  simp only [playerStep, releaseStep, hdue, if_true, h']

theorem releaseStep_admitted {r : EventRecord} (hdue : releasable newPos s = true)
    (h : handlingOf s (nextRecord s) = .present r) (hroom : s.queue.records.length ≤ 63) :
    playerStep (.release newPos) s =
      (.release newPos, pastRecord ((enqueue (limitValue r) s).mapPlayer (afterRelease r))) := by
  have h' : handlingOf s (slotAt (takeArea s).slots s.player.readIdx) = .present r := h
  simp only [playerStep, releaseStep, hdue, if_true, h', presentPlayback_admitted hroom]

theorem releaseStep_refused {r : EventRecord} (hdue : releasable newPos s = true)
    (h : handlingOf s (nextRecord s) = .present r) (hfull : 64 ≤ s.queue.records.length) :
    playerStep (.release newPos) s = (.done, holdRecord s) := by
  have h' : handlingOf s (slotAt (takeArea s).slots s.player.readIdx) = .present r := h
  simp only [playerStep, releaseStep, hdue, if_true, h', presentPlayback_refused hfull, Bool.false_eq_true, if_false]

/-- The release ends at the new position, which lies within the pass, or within the take in free play. -/
theorem releaseStep_end (hdue : ¬ releasable newPos s = true)
    (hwithin : if s.player.freePlay then newPos < endPosition s.memory.take * 256 else newPos < passLimit s) :
    playerStep (.release newPos) s =
      (.done, advanced newPos { s with player := { s.player with hold := 0 } }) := by
  let t : State := { s with player := { s.player with hold := 0 } }
  have hbelow : belowLimit t newPos = true := by
    change (s.player.freePlay || decide (newPos < passLimit s)) = true
    cases hfree : s.player.freePlay <;> simp_all
  rw [← advanceTo_eq (s := t) hbelow]
  simp only [playerStep, releaseStep, hdue, finishRelease]
  cases hfree : s.player.freePlay with
  | true =>
    rw [hfree] at hwithin
    have hend : ¬ takeEndUnits s ≤ newPos := Nat.not_le.2 hwithin
    simp only [hend, and_false]
    rfl
  | false =>
    rw [hfree] at hwithin
    have hlimit : ¬ passLimit s ≤ newPos := Nat.not_le.2 hwithin
    simp only [hlimit]
    rfl

/-- A refused record stays, and the position becomes its own. -/
theorem holdRecord_eq (hbelow : belowLimit s (positionOf s.memory.take.slots s.player.readIdx * 256) = true) :
    holdRecord s = holdFrame s.player.readIdx (advanced (positionOf s.memory.take.slots s.player.readIdx * 256) s) := by
  rw [← advanceTo_eq hbelow]
  rfl

end Step

/-! ## The stream of a pair -/

/-- A pair put in is found on its stream, and every other one as before. -/
theorem pairStream_insertPair (q : PlayPair) (l : List PlayPair) (part key : Nat) :
    pairStream (insertPair q l) part key = if q.part = part ∧ q.key = key then some q.stream else pairStream l part key := by
  have hcons (p : PlayPair) (l : List PlayPair) : pairStream (p :: l) part key =
      if p.part = part ∧ p.key = key then some p.stream else pairStream l part key := by
    by_cases hp : p.part = part ∧ p.key = key <;> simp [pairStream, hp]
  induction l with
  | nil => simp [insertPair, hcons]
  | cons p l ih =>
    by_cases hlt : q.part < p.part ∨ (q.part = p.part ∧ q.key < p.key)
    · rw [insertPair, if_pos hlt, hcons]
    · by_cases heq : q.part = p.part ∧ q.key = p.key
      · rw [insertPair, if_neg hlt, if_pos heq, hcons, hcons, heq.1, heq.2]
        split <;> rfl
      · have hother : q.part = part ∧ q.key = key → ¬ (p.part = part ∧ p.key = key) :=
          fun hq hp => heq ⟨hq.1.trans hp.1.symm, hq.2.trans hp.2.symm⟩
        rw [insertPair, if_neg hlt, if_neg heq, hcons, ih, hcons]
        by_cases hq : q.part = part ∧ q.key = key
        · rw [if_pos hq, if_neg (hother hq), if_pos hq]
        · rw [if_neg hq, if_neg hq]

/-! ## A held NOTE_ON of a PLAY part (R135) -/

/-- The position of a held record stands at the record, and the pass does not end with the next advance. -/
structure HeldNote (r : TakeRecord) (s : State) : Prop where
  record : nextRecord s = r
  kind : r.kind = .noteOn
  mode : (partAt s.player r.part).mode = .play
  listed : s.player.readIdx < firstEnd s.memory.take
  reached : positionOf s.memory.take.slots s.player.readIdx * 256 = s.player.pos
  bounded : s.player.freePlay = false
  within : s.player.pos + s.player.rate < passLimit s

section HeldNote

variable {r : TakeRecord} {s : State}

theorem HeldNote.releasable (h : HeldNote r s) : releasable (s.player.pos + s.player.rate) s = true := by
  refine (releasable_iff _ _).2 ⟨h.listed, h.reached ▸ Nat.le_add_right _ _, ?_⟩
  have hbelow : s.player.pos < passLimit s := Nat.lt_of_le_of_lt (Nat.le_add_right _ _) h.within
  simp [belowLimit, h.reached, hbelow]

/-- The record presented. -/
theorem HeldNote.handling (h : HeldNote r s) : handlingOf s (nextRecord s) = .present
    (playbackRecord .noteOn (partAt s.player r.part).stream r.part r.key r.value (takeOffset s r.sub)) := by
  rw [h.record]
  simp only [handlingOf, h.kind, h.mode]

/-- Refused, it makes a held frame that moves nothing. -/
theorem HeldNote.refused (h : HeldNote r s) (hfull : 64 ≤ s.queue.records.length) :
    RunsTo 2 .advance s (holdFrame s.player.readIdx s) := by
  have hhold : holdRecord s = holdFrame s.player.readIdx s := by
    rw [holdRecord, advanceTo_here (q := positionOf (takeArea s).slots s.player.readIdx * 256) h.reached]
  refine .advance (.step (releaseStep_refused h.releasable h.handling hfull) ?_)
  rw [hhold]
  exact .done _

/-- The state when it has entered the queue. -/
def noteSent (r : TakeRecord) (s : State) : State :=
  let st := (partAt s.player r.part).stream
  { s with
    queue := { s.queue with records := s.queue.records ++
      [playbackRecord .noteOn st r.part r.key (clampNat 1 127 r.value) (takeOffset s r.sub)] }
    player := { s.player with
      sounding := insertPair { part := r.part, key := r.key, stream := st } s.player.sounding
      readIdx := s.player.readIdx + 1 } }

/-- Admitted, and with no further record due, it is followed by the advance to the new position. -/
theorem HeldNote.admitted (h : HeldNote r s) (hroom : s.queue.records.length ≤ 63)
    (hlast : firstEnd s.memory.take ≤ s.player.readIdx + 1 ∨
      s.player.pos + s.player.rate < positionOf s.memory.take.slots (s.player.readIdx + 1) * 256) :
    RunsTo 3 .advance s (advanced (s.player.pos + s.player.rate)
      { noteSent r s with player := { (noteSent r s).player with hold := 0 } }) := by
  have hnone : ¬ Machine.releasable (s.player.pos + s.player.rate) (noteSent r s) = true := by
    rw [releasable_iff]
    rintro ⟨hlisted, hdue, -⟩
    exact hlast.elim (Nat.not_le.2 hlisted) (Nat.not_lt.2 hdue)
  have hwithin : if (noteSent r s).player.freePlay then
      s.player.pos + s.player.rate < endPosition (noteSent r s).memory.take * 256
      else s.player.pos + s.player.rate < passLimit (noteSent r s) := by
    rw [show (noteSent r s).player.freePlay = false from h.bounded]
    exact h.within
  exact .advance (.step (releaseStep_admitted h.releasable h.handling hroom)
    (.step (releaseStep_end (s := noteSent r s) hnone hwithin) (.done _)))

end HeldNote

end Sys2Proof.Proofs.Release

/-! PROOFS. Chapter 05: the GUIDE_ONs of a chord (R146): the slots examined, the pairs taken from them and counted beyond 16, and
what their presentation leaves. -/

namespace Sys2Proof.Proofs.Chord

open Sys2Proof.Machine
open Sys2Proof.Proofs.Release

/-! ## The slots examined -/

/-- What is taken from the front of a list along which a property is only lost is what has the property. -/
theorem takeWhile_eq_filter {α : Type} {f : α → Bool} {l : List α} (h : l.Pairwise fun a b => f b = true → f a = true) :
    l.takeWhile f = l.filter f := by
  induction l with
  | nil => rfl
  | cons a l ih =>
    obtain ⟨ha, hl⟩ := List.pairwise_cons.1 h
    by_cases hf : f a = true
    · rw [List.takeWhile_cons_of_pos hf, List.filter_cons_of_pos hf, ih hl]
    · rw [List.takeWhile_cons_of_neg hf, List.filter_cons_of_neg hf, List.filter_eq_nil_iff.2 fun b hb => mt (ha b hb) hf]

/-- The numbers from `i` on below `n`. -/
theorem map_add_range_eq_filter (i n : Nat) :
    (List.range (n - i)).map (i + ·) = (List.range n).filter (fun j => decide (i ≤ j)) := by
  induction n with
  | zero => simp
  | succ n ih =>
    rw [List.range_succ, List.filter_append, ← ih]
    by_cases hi : i ≤ n
    · simp [Nat.succ_sub hi, List.range_succ, hi]
    · have hnone : n + 1 - i = n - i := by omega
      simp [hnone, hi]

/-- Whether a slot lies within the window of a chord from `first` and below the limit. -/
def inWindow (s : State) (first i : Nat) : Bool :=
  decide (positionOf s.memory.take.slots i ≤ positionOf s.memory.take.slots first + s.player.window) &&
    belowLimit s (positionOf s.memory.take.slots i * 256)

/-- Positions never fall from slot to slot, so a slot is in the window where a later one is. -/
theorem inWindow_of_le {s : State} {first i j : Nat} (hij : i ≤ j) (h : inWindow s first j = true) :
    inWindow s first i = true := by
  have hpos := positionOf_mono s.memory.take.slots hij
  simp only [inWindow, belowLimit, Bool.and_eq_true, Bool.or_eq_true, decide_eq_true_eq] at h ⊢
  exact ⟨hpos.trans h.1, h.2.imp_right (Nat.lt_of_le_of_lt (Nat.mul_le_mul_right 256 hpos))⟩

/-- The slots examined are those from the first on that lie in the window. -/
theorem chordSlots_eq (s : State) (first : Nat) : chordSlots s first =
    (List.range (firstEnd s.memory.take)).filter (fun i => decide (first ≤ i) && inWindow s first i) := by
  have hsorted : ((List.range (firstEnd s.memory.take)).filter (fun i => decide (first ≤ i))).Pairwise
      (fun i j => inWindow s first j = true → inWindow s first i = true) :=
    (List.pairwise_lt_range.filter _).imp fun hij => inWindow_of_le (Nat.le_of_lt hij)
  have hfilter := takeWhile_eq_filter hsorted
  rw [List.filter_filter, ← map_add_range_eq_filter] at hfilter
  simp only [Bool.and_comm] at hfilter ⊢
  exact hfilter

/-! ## The pairs of a chord -/

section Pairs

variable (pair : Nat → Nat × Nat) (l : List Nat)

/-- The slots at which a pair occurs for the first time. -/
def firsts : List Nat := l.filter (fun i => l.all (fun j => decide (i ≤ j) || decide (pair j ≠ pair i)))

/-- The slots whose pairs a chord takes. -/
def chordTaken : List Nat := (firsts pair l).take 16

/-- How often pairs beyond those taken occur. -/
def beyond : Nat := (l.filter (fun i => (chordTaken pair l).all (fun j => decide (pair j ≠ pair i)))).length

variable {pair l}

theorem mem_of_mem_firsts {i : Nat} (h : i ∈ firsts pair l) : i ∈ l := List.mem_of_mem_filter h

/-- Every pair has a first occurrence. -/
theorem exists_first {i : Nat} (h : i ∈ l) : ∃ j ∈ firsts pair l, pair j = pair i := by
  induction i using Nat.strong_induction_on with
  | _ i ih =>
    by_cases hfirst : l.all (fun j => decide (i ≤ j) || decide (pair j ≠ pair i)) = true
    · exact ⟨i, List.mem_filter.2 ⟨h, hfirst⟩, rfl⟩
    · obtain ⟨j, hj, hlt, hpair⟩ : ∃ j ∈ l, j < i ∧ pair j = pair i := by simpa using hfirst
      obtain ⟨k, hk, hkj⟩ := ih j hlt hj
      exact ⟨k, hk, hkj.trans hpair⟩

/-- A later slot is a first occurrence where its pair has not occurred. -/
theorem firsts_concat {x : Nat} (hx : ∀ j ∈ l, j < x) :
    firsts pair (l ++ [x]) = firsts pair l ++ if ∀ j ∈ l, pair j ≠ pair x then [x] else [] := by
  have hbefore : l.filter (fun i => (l ++ [x]).all (fun j => decide (i ≤ j) || decide (pair j ≠ pair i))) = firsts pair l :=
    List.filter_congr fun i hi => by simp [Nat.le_of_lt (hx i hi)]
  have hlast : (l ++ [x]).all (fun j => decide (x ≤ j) || decide (pair j ≠ pair x)) = true ↔
      ∀ j ∈ l, pair j ≠ pair x := by
    simp only [List.all_append, List.all_cons, List.all_nil, Bool.and_eq_true, List.all_eq_true, Bool.or_eq_true,
      decide_eq_true_eq, le_refl, true_or, and_true]
    exact forall₂_congr fun j hj => or_iff_right (Nat.not_le.2 (hx j hj))
  rw [firsts, List.filter_append, hbefore]
  by_cases h : ∀ j ∈ l, pair j ≠ pair x
  · rw [if_pos h]
    exact congrArg (firsts pair l ++ ·) (List.filter_cons_of_pos (hlast.2 h))
  · rw [if_neg h]
    exact congrArg (firsts pair l ++ ·) (List.filter_cons_of_neg (mt hlast.1 h))

/-- With no more than 16 pairs, none is beyond. -/
theorem beyond_eq_zero (h : (firsts pair l).length ≤ 16) : beyond pair l = 0 := by
  rw [beyond, List.length_eq_zero_iff, List.filter_eq_nil_iff]
  intro i hi
  obtain ⟨j, hj, hpair⟩ := exists_first (pair := pair) hi
  have htaken : j ∈ chordTaken pair l := by rwa [chordTaken, List.take_of_length_le h]
  simpa using ⟨j, htaken, hpair⟩

/-- A pair taken already changes nothing. -/
theorem chord_concat_known {x : Nat} (hx : ∀ j ∈ l, j < x) (h : ∃ j ∈ chordTaken pair l, pair j = pair x) :
    chordTaken pair (l ++ [x]) = chordTaken pair l ∧ beyond pair (l ++ [x]) = beyond pair l := by
  obtain ⟨j, hj, hpair⟩ := h
  have hmem : j ∈ l := mem_of_mem_firsts (List.mem_of_mem_take hj)
  have htaken : chordTaken pair (l ++ [x]) = chordTaken pair l := by
    rw [chordTaken, firsts_concat hx, if_neg fun hnew => hnew j hmem hpair, List.append_nil, chordTaken]
  refine ⟨htaken, ?_⟩
  rw [beyond, htaken, List.filter_append, List.filter_cons_of_neg, List.filter_nil, List.append_nil, beyond]
  simpa using ⟨j, hj, hpair⟩

/-- With room in the chord, a new pair is taken. -/
theorem chord_concat_new {x : Nat} (hx : ∀ j ∈ l, j < x) (h : ∀ j ∈ chordTaken pair l, pair j ≠ pair x)
    (hroom : (chordTaken pair l).length < 16) :
    chordTaken pair (l ++ [x]) = chordTaken pair l ++ [x] ∧ beyond pair l = 0 ∧ beyond pair (l ++ [x]) = 0 := by
  have hlength : (firsts pair l).length < 16 := by simp only [chordTaken, List.length_take] at hroom; omega
  have hall : chordTaken pair l = firsts pair l := List.take_of_length_le (Nat.le_of_lt hlength)
  have hnew : ∀ j ∈ l, pair j ≠ pair x := fun j hj heq => by
    obtain ⟨k, hk, hkj⟩ := exists_first (pair := pair) hj
    exact h k (hall ▸ hk) (hkj.trans heq)
  have hfirsts : firsts pair (l ++ [x]) = firsts pair l ++ [x] := by rw [firsts_concat hx, if_pos hnew]
  have hlength' : (firsts pair (l ++ [x])).length ≤ 16 := by rw [hfirsts, List.length_append, List.length_singleton]; omega
  exact ⟨by rw [chordTaken, List.take_of_length_le hlength', hfirsts, hall], beyond_eq_zero (Nat.le_of_lt hlength),
    beyond_eq_zero hlength'⟩

/-- With 16 pairs taken, a new pair is counted. -/
theorem chord_concat_beyond {x : Nat} (hx : ∀ j ∈ l, j < x) (h : ∀ j ∈ chordTaken pair l, pair j ≠ pair x)
    (hfull : ¬ (chordTaken pair l).length < 16) :
    chordTaken pair (l ++ [x]) = chordTaken pair l ∧ beyond pair (l ++ [x]) = beyond pair l + 1 := by
  have hlength : 16 ≤ (firsts pair l).length := by simp only [chordTaken, List.length_take] at hfull; omega
  have htaken : chordTaken pair (l ++ [x]) = chordTaken pair l := by
    rw [chordTaken, firsts_concat hx, List.take_append_of_le_length hlength, chordTaken]
  refine ⟨htaken, ?_⟩
  rw [beyond, htaken, List.filter_append, List.filter_cons_of_pos (by simpa using h), List.filter_nil, List.length_append,
    beyond]
  rfl

end Pairs

/-! ## The gathering (R146) -/

/-- Whether a slot holds a NOTE_ON of a GUIDE part. -/
def guideNote (s : State) (i : Nat) : Bool :=
  decide ((slotAt s.memory.take.slots i).kind = .noteOn) &&
    decide ((partAt s.player (slotAt s.memory.take.slots i).part).mode = .guide)

/-- The pair of the record of a slot. -/
def pairAt (s : State) (i : Nat) : Nat × Nat := ((slotAt s.memory.take.slots i).part, (slotAt s.memory.take.slots i).key)

/-- The pair of a slot as a chord takes it. -/
def noteAt (s : State) (i : Nat) : ChordNote :=
  let r := slotAt s.memory.take.slots i
  { part := r.part, key := r.key, value := r.value, sub := r.sub }

theorem chordAdd_other {s : State} {i : Nat} (h : ¬ guideNote s i = true) (c : Machine.Chord) : chordAdd s c i = c := by
  simp only [guideNote, Bool.and_eq_true, decide_eq_true_eq] at h
  exact if_neg h

/-- What a NOTE_ON of a GUIDE part does to a chord: it is in it already, joins it, or overflows it. -/
theorem chordAdd_note {s : State} {i : Nat} (h : guideNote s i = true) (js : List Nat) (o : Nat) :
    chordAdd s { notes := js.map (noteAt s), overflows := o } i =
      if ∃ j ∈ js, pairAt s j = pairAt s i then { notes := js.map (noteAt s), overflows := o }
      else if js.length < 16 then { notes := js.map (noteAt s) ++ [noteAt s i], overflows := o }
      else { notes := js.map (noteAt s), overflows := satInc 65535 o } := by
  simp only [guideNote, Bool.and_eq_true, decide_eq_true_eq] at h
  have hany : (js.map (noteAt s)).any (fun n => decide (n.part = (slotAt s.memory.take.slots i).part) &&
      decide (n.key = (slotAt s.memory.take.slots i).key)) = true ↔ ∃ j ∈ js, pairAt s j = pairAt s i := by
    simp only [List.any_map, List.any_eq_true, Function.comp, Bool.and_eq_true, decide_eq_true_eq, pairAt,
      Prod.mk.injEq]
    rfl
  refine (if_pos h).trans ?_
  simp only [← hany, List.length_map]
  rfl

/-- The overflow count after `n` more. -/
theorem satInc_overflows (o n : Nat) : satInc 65535 (if n = 0 then o else min 65535 (o + n)) = min 65535 (o + (n + 1)) := by
  unfold satInc; split <;> omega

/-- A chord gathered from slots in rising order: the first 16 pairs, each at its first occurrence, and the others counted. -/
theorem foldl_chordAdd (s : State) (o : Nat) {l : List Nat} (hsorted : l.Pairwise (· < ·))
    (hguide : ∀ i ∈ l, guideNote s i = true) :
    l.foldl (chordAdd s) { notes := [], overflows := o } =
      { notes := (chordTaken (pairAt s) l).map (noteAt s)
        overflows := if beyond (pairAt s) l = 0 then o else min 65535 (o + beyond (pairAt s) l) } := by
  induction l using List.reverseRecOn with
  | nil => rfl
  | append_singleton l x ih =>
    obtain ⟨hl, -, hx⟩ := List.pairwise_append.1 hsorted
    have hbelow : ∀ j ∈ l, j < x := fun j hj => hx j hj x (by simp)
    rw [List.foldl_append, ih hl (fun i hi => hguide i (by simp [hi])), List.foldl_cons, List.foldl_nil,
      chordAdd_note (hguide x (by simp))]
    by_cases hknown : ∃ j ∈ chordTaken (pairAt s) l, pairAt s j = pairAt s x
    · obtain ⟨htaken, hbeyond⟩ := chord_concat_known hbelow hknown
      rw [if_pos hknown, htaken, hbeyond]
    · have hnew : ∀ j ∈ chordTaken (pairAt s) l, pairAt s j ≠ pairAt s x := fun j hj heq => hknown ⟨j, hj, heq⟩
      rw [if_neg hknown]
      by_cases hroom : (chordTaken (pairAt s) l).length < 16
      · obtain ⟨htaken, hzero, hzero'⟩ := chord_concat_new hbelow hnew hroom
        rw [if_pos hroom, htaken, hzero, hzero', List.map_append]
        rfl
      · obtain ⟨htaken, hbeyond⟩ := chord_concat_beyond hbelow hnew hroom
        rw [if_neg hroom, htaken, hbeyond, satInc_overflows]
        rfl

/-- The chord gathered at the read index. -/
theorem chordOf_eq (s : State) :
    let hits := (chordSlots s s.player.readIdx).filter (guideNote s)
    chordOf s =
      { notes := (chordTaken (pairAt s) hits).map (noteAt s)
        overflows := if beyond (pairAt s) hits = 0 then s.player.overflows
          else min 65535 (s.player.overflows + beyond (pairAt s) hits) } := by
  intro hits
  have hsorted : hits.Pairwise (· < ·) := by
    refine List.Pairwise.filter _ ?_
    rw [chordSlots_eq]
    exact List.pairwise_lt_range.filter _
  rw [← foldl_chordAdd s _ hsorted (fun i hi => List.of_mem_filter hi), List.foldl_filter, chordOf]
  congr 1
  funext c i
  split
  · rfl
  · exact chordAdd_other ‹_› c

/-- A chord gathered at the Player's own position moves nothing. -/
theorem gatherChord_eq {s : State} (hpos : positionOf s.memory.take.slots s.player.readIdx * 256 = s.player.pos)
    (hfirst : s.player.readIdx ∈ chordSlots s s.player.readIdx) :
    gatherChord s = { s with player := { s.player with
      expected := (chordOf s).notes.map (fun n => (n.part, n.key)), overflows := (chordOf s).overflows
      gatherLimit := (chordSlots s s.player.readIdx).getLast?
      state := .waiting, hold := 0, readIdx := s.player.readIdx + 1 } } := by
  have hlast : some ((chordSlots s s.player.readIdx).getLast?.getD s.player.readIdx) =
      (chordSlots s s.player.readIdx).getLast? := by
    rw [List.getLast?_eq_some_getLast (List.ne_nil_of_mem hfirst)]
    rfl
  simp only [gatherChord, advanceTo_here (q := positionOf (takeArea s).slots s.player.readIdx * 256) hpos, hlast]
  rfl

/-! ## The GUIDE_ONs (R146) -/

/-- The queue record of a pair taken into a chord. -/
def guideOnOf (p : Player) (n : ChordNote) : EventRecord :=
  { kind := .guideOn, source := .playback, stream := (partAt p n.part).stream, part := n.part, key := n.key
    value := clampNat 1 127 n.value, isRepeat := false, offset := if p.rate = 256 then n.sub else 0, age := 0 }

/-- The lit set with the pair of a GUIDE_ON. -/
def lightNote (p : Player) (lit : List PlayPair) (n : ChordNote) : List PlayPair :=
  insertPair { part := n.part, key := n.key, stream := (partAt p n.part).stream } lit

theorem presentGuideOn_admitted (n : ChordNote) {s : State} (h : s.queue.records.length ≤ 63) :
    presentGuideOn n s = { s with
      queue := { s.queue with records := s.queue.records ++ [guideOnOf s.player n] }
      player := { s.player with lit := lightNote s.player s.player.lit n } } := by
  rw [presentGuideOn, presentPlayback_admitted h]
  rfl

theorem presentGuideOn_refused (n : ChordNote) {s : State} (h : 64 ≤ s.queue.records.length) : presentGuideOn n s = s := by
  rw [presentGuideOn, presentPlayback_refused h]
  rfl

/-- The GUIDE_ONs of a chord, presented one after another. -/
def presentChord (notes : List ChordNote) (s : State) : State := notes.foldl (fun s n => presentGuideOn n s) s

theorem runsTo_guideOns (notes : List ChordNote) (s : State) :
    RunsTo (notes.length + 1) (.guideOns notes) s (presentChord notes s) := by
  induction notes generalizing s with
  | nil => exact .step rfl (.done s)
  | cons n notes ih => exact .step rfl (ih _)

/-- They change the queue and the lit set only. -/
theorem presentChord_frame (notes : List ChordNote) (s : State) :
    ∃ q lit, presentChord notes s = { s with queue := q, player := { s.player with lit := lit } } := by
  induction notes generalizing s with
  | nil => exact ⟨s.queue, s.player.lit, rfl⟩
  | cons n notes ih =>
    obtain ⟨q, lit, hrest⟩ := ih (presentGuideOn n s)
    refine ⟨q, lit, hrest.trans ?_⟩
    rcases Nat.lt_or_ge s.queue.records.length 64 with h | h
    · rw [presentGuideOn_admitted n (Nat.le_of_lt_succ h)]
    · rw [presentGuideOn_refused n h]

/-- With room for all of them, all enter and all pairs are lit. -/
theorem presentChord_room {notes : List ChordNote} {s : State} (h : s.queue.records.length + notes.length ≤ 64) :
    presentChord notes s = { s with
      queue := { s.queue with records := s.queue.records ++ notes.map (guideOnOf s.player) }
      player := { s.player with lit := notes.foldl (lightNote s.player) s.player.lit } } := by
  induction notes generalizing s with
  | nil => rw [List.map_nil, List.append_nil]; rfl
  | cons n notes ih =>
    rw [List.length_cons] at h
    change presentChord notes (presentGuideOn n s) = _
    rw [presentGuideOn_admitted n (by omega), ih (by simp; omega)]
    simp only [List.append_assoc]
    rfl

/-- With no room, nothing changes. -/
theorem presentChord_full (notes : List ChordNote) {s : State} (h : 64 ≤ s.queue.records.length) :
    presentChord notes s = s := by
  induction notes with
  | nil => rfl
  | cons n notes ih =>
    change presentChord notes (presentGuideOn n s) = _
    rw [presentGuideOn_refused n h, ih]

/-- A pair lit on its part's stream stays lit on it. -/
theorem pairStream_foldl_lightNote (p : Player) {notes : List ChordNote} {lit : List PlayPair} {part key : Nat}
    (h : (∃ n ∈ notes, n.part = part ∧ n.key = key) ∨ pairStream lit part key = some (partAt p part).stream) :
    pairStream (notes.foldl (lightNote p) lit) part key = some (partAt p part).stream := by
  induction notes generalizing lit with
  | nil => simpa using h
  | cons n notes ih =>
    refine ih ?_
    rcases h with ⟨m, hm, hmatch⟩ | h
    · rcases List.mem_cons.1 hm with rfl | hm
      · exact .inr ((pairStream_insertPair _ _ _ _).trans (by rw [if_pos hmatch, hmatch.1]))
      · exact .inl ⟨m, hm, hmatch⟩
    · refine .inr ((pairStream_insertPair _ _ _ _).trans ?_)
      split
      · rename_i hmatch; rw [← hmatch.1]
      · exact h

/-! ## A held NOTE_ON of a GUIDE part with follow on (R135, R146) -/

/-- The held record begins a chord, at the Player's position and below the limit. -/
structure HeldChord (s : State) : Prop where
  follow : s.player.follow = true
  guide : guideNote s s.player.readIdx = true
  ungathered : ∀ g, s.player.gatherLimit = some g → g < s.player.readIdx
  listed : s.player.readIdx < firstEnd s.memory.take
  reached : positionOf s.memory.take.slots s.player.readIdx * 256 = s.player.pos
  bounded : s.player.freePlay = false
  within : s.player.pos < passLimit s

section HeldChord

variable {s : State}

theorem HeldChord.below (h : HeldChord s) :
    belowLimit s (positionOf s.memory.take.slots s.player.readIdx * 256) = true := by
  simp [belowLimit, h.reached, h.within]

theorem HeldChord.releasable (h : HeldChord s) : releasable (s.player.pos + s.player.rate) s = true :=
  (releasable_iff _ _).2 ⟨h.listed, h.reached ▸ Nat.le_add_right _ _, h.below⟩

theorem HeldChord.handling (h : HeldChord s) : handlingOf s (nextRecord s) = .gather := by
  have hguide := h.guide
  simp only [guideNote, Bool.and_eq_true, decide_eq_true_eq] at hguide
  have hbeyond : gathered s.player s.player.readIdx = false := by
    unfold gathered
    split
    · rename_i g hg
      exact decide_eq_false (Nat.not_le.2 (h.ungathered g hg))
    · rfl
  simp only [handlingOf, nextRecord, hguide.1, hguide.2, hbeyond, h.follow, Bool.false_eq_true, if_false, if_true]

/-- The record at the read index is examined first. -/
theorem HeldChord.examined (h : HeldChord s) : s.player.readIdx ∈ chordSlots s s.player.readIdx := by
  rw [chordSlots_eq, List.mem_filter]
  refine ⟨List.mem_range.2 h.listed, ?_⟩
  simp [inWindow, h.below]

/-- The tick ends with the chord gathered and its GUIDE_ONs presented. -/
theorem HeldChord.gathers (h : HeldChord s) :
    RunsTo ((chordOf s).notes.length + 3) .advance s (presentChord (chordOf s).notes (gatherChord s)) :=
  .advance (.step (releaseStep_gather h.releasable h.handling) (runsTo_guideOns _ _))

/-- At most 16 pairs are taken. -/
theorem chordOf_length (s : State) : (chordOf s).notes.length ≤ 16 := by
  simp only [chordOf_eq, chordTaken, List.length_map, List.length_take]
  omega

end HeldChord

end Sys2Proof.Proofs.Chord

/-! PROOFS. Chapter 05: the release of a tick as it meets the Event Queue (R132 to R135): all the records due, released one after
another by the table of R134 up to the first refusal, and the statement of the held record, the chord and the tick. -/

namespace Sys2Proof.Proofs.TickRelease

open Sys2Proof.Machine
open Sys2Proof.Claims (advanced presented taken withPair withoutPair playbackRun)
open Sys2Proof.Proofs.StrikeVelocity (clampNat_zero)
open Sys2Proof.Proofs.EventQueue (clampNat_eq_max_min)
open Sys2Proof.Proofs.Endings (SetsAscending holdFrame_eq partAt_setPart setPart_frame)
open Sys2Proof.Proofs.Release
open Sys2Proof.Proofs.Chord

/-! ## The sets after a record (R131, R134) -/

/-- A pair before all others of a set is put in front. -/
theorem withPair_front {q : PlayPair} {l : List PlayPair} (h : ∀ x ∈ l, pairBefore q x) : withPair q l = q :: l := by
  have hbefore : l.filter (fun x => decide (pairBefore x q)) = [] := List.filter_eq_nil_iff.2 fun x hx => by
    have hlt := h x hx
    rw [decide_eq_true_eq]
    unfold pairBefore at *
    omega
  have hafter : l.filter (fun x => decide (pairBefore q x)) = l :=
    List.filter_eq_self.2 fun x hx => decide_eq_true (h x hx)
  rw [withPair, hbefore, hafter]
  rfl

/-- In an ascending set a pair put in stands between the pairs before it and those after it. -/
theorem insertPair_eq_withPair (q : PlayPair) {l : List PlayPair} (h : pairsAscending l) : insertPair q l = withPair q l := by
  induction l with
  | nil => rfl
  | cons p l ih =>
    obtain ⟨hp, hl⟩ := List.pairwise_cons.1 h
    by_cases hlt : pairBefore q p
    · have hall : ∀ x ∈ p :: l, pairBefore q x := List.forall_mem_cons.2
        ⟨hlt, fun x hx => by have := hp x hx; unfold pairBefore at *; omega⟩
      rw [insertPair, if_pos hlt, withPair_front hall]
    · by_cases heq : q.part = p.part ∧ q.key = p.key
      · have hall : ∀ x ∈ l, pairBefore q x := fun x hx => by have := hp x hx; unfold pairBefore at *; omega
        have hout : withPair q (p :: l) = withPair q l := by
          have hnot : ¬ pairBefore p q := by unfold pairBefore; omega
          rw [withPair, List.filter_cons_of_neg (by simpa using hnot), List.filter_cons_of_neg (by simpa using hlt), withPair]
        rw [insertPair, if_neg hlt, if_pos heq, hout, withPair_front hall]
      · have hpq : pairBefore p q := by unfold pairBefore at *; omega
        rw [insertPair, if_neg hlt, if_neg heq, ih hl, withPair, withPair, List.filter_cons_of_pos (by simpa using hpq),
          List.filter_cons_of_neg (by simpa using hlt)]
        rfl

theorem dropPair_eq_withoutPair (l : List PlayPair) (part key : Nat) : dropPair l part key = withoutPair part key l := by
  refine List.filter_congr fun x _ => ?_
  simp only [ne_eq, Prod.mk.injEq, decide_not, Bool.decide_and]

/-- The release keeps the Player's sets as they are stated. -/
theorem afterRelease_eq_taken (r : EventRecord) {p : Player} (h : SetsAscending p) :
    afterRelease r p = taken (limitValue r) p := by
  obtain ⟨hsounding, hlit⟩ := h
  obtain ⟨kind, source, stream, part, key, value, isRepeat, offset, age⟩ := r
  cases kind with
  | noteOn => simp only [afterRelease, taken, limitValue, insertPair_eq_withPair _ hsounding]
  | noteOff => simp only [afterRelease, taken, limitValue, dropPair_eq_withoutPair]
  | guideOn => simp only [afterRelease, taken, limitValue, insertPair_eq_withPair _ hlit]
  | guideOff => simp only [afterRelease, taken, limitValue, dropPair_eq_withoutPair]
  | damper => rfl
  | sostenuto => rfl
  | soft => rfl
  | miss => rfl

theorem afterRelease_ascending (r : EventRecord) {p : Player} (h : SetsAscending p) : SetsAscending (afterRelease r p) := by
  obtain ⟨hsounding, hlit⟩ := h
  unfold afterRelease
  split
  · exact ⟨insertPair_ascending _ hsounding, hlit⟩
  · exact ⟨dropPair_ascending _ _ hsounding, hlit⟩
  · exact ⟨hsounding, insertPair_ascending _ hlit⟩
  · exact ⟨hsounding, dropPair_ascending _ _ hlit⟩
  · rw [setPart_frame]; exact ⟨hsounding, hlit⟩
  all_goals exact ⟨hsounding, hlit⟩

theorem afterRelease_readIdx (r : EventRecord) (i : Nat) (p : Player) :
    afterRelease r { p with readIdx := i } = { afterRelease r p with readIdx := i } := by
  obtain ⟨kind, source, stream, part, key, value, isRepeat, offset, age⟩ := r
  cases kind with
  | damper =>
    simp only [afterRelease, setPart]
    split <;> rfl
  | _ => rfl

/-! ## What a release leaves of the Player -/

/-- Apart from its sets and last sent dampers, the Player is as it was. -/
structure SameSettings (p q : Player) : Prop where
  frame : q = { p with sounding := q.sounding, lit := q.lit, parts := q.parts }
  mode : ∀ n, (partAt q n).mode = (partAt p n).mode

theorem SameSettings.refl (p : Player) : SameSettings p p := ⟨rfl, fun _ => rfl⟩

theorem SameSettings.trans {p q r : Player} (h : SameSettings p q) (h' : SameSettings q r) : SameSettings p r :=
  ⟨h'.frame.trans (by rw [h.frame]), fun n => (h'.mode n).trans (h.mode n)⟩

theorem SameSettings.taken (ev : EventRecord) (p : Player) : SameSettings p (taken ev p) := by
  have hpart (n : Nat) (v : Nat) : SameSettings p (setPart n (fun q => { q with lastDamper := v }) p) := by
    refine ⟨by unfold setPart; split <;> rfl, fun m => ?_⟩
    rw [partAt_setPart]
    split <;> rfl
  obtain ⟨kind, source, stream, part, key, value, isRepeat, offset, age⟩ := ev
  cases kind with
  | damper => exact hpart part value
  | _ => exact ⟨rfl, fun _ => rfl⟩

/-! ## One record of the release as it is stated (R134) -/

/-- The record begins a chord. -/
def BeginsChord (p : Player) (i : Nat) (r : TakeRecord) : Prop :=
  p.follow = true ∧ r.kind = .noteOn ∧ (partAt p r.part).mode = .guide ∧ ∀ g, p.gatherLimit = some g → g < i

/-- A handling that is no gathering admits the record that is stated, or none. -/
def Admits : Handling → Option EventRecord → Prop
  | .skip, o => o = none
  | .present r, o => o = some { limitValue r with age := 0 }
  | .gather, _ => False

section Guide

variable {s : State} {r : TakeRecord}

theorem handlingOf_guideNote (hkind : r.kind = .noteOn) (hmode : (partAt s.player r.part).mode = .guide) :
    handlingOf s r = if gathered s.player s.player.readIdx then .skip else if s.player.follow then .gather else
      .present (playbackRecord .guideOn (partAt s.player r.part).stream r.part r.key r.value (takeOffset s r.sub)) := by
  simp only [handlingOf, hkind, hmode]

theorem presented_guideNote {p : Player} {i : Nat} (hkind : r.kind = .noteOn) (hmode : (partAt p r.part).mode = .guide) :
    presented p i r = if gathered p i then none else
      some (playbackRecord .guideOn (partAt p r.part).stream r.part r.key (max 1 (min 127 r.value))
        (if p.rate = 256 then r.sub else 0)) := by
  have hany : p.gatherLimit.any (fun g => decide (i ≤ g)) = gathered p i := by
    unfold gathered
    cases p.gatherLimit <;> rfl
  simp only [presented, hkind, hmode, hany]
  rfl

/-- The pedals of a PLAY part are presented, and those of any other part are passed. -/
theorem admits_pedal (hkind : r.kind = .damper ∨ r.kind = .sostenuto ∨ r.kind = .soft) :
    Admits (handlingOf s r) (presented s.player s.player.readIdx r) := by
  cases hmode : (partAt s.player r.part).mode with
  | play =>
    rcases hkind with hkind | hkind | hkind <;>
      simp [handlingOf, presented, hkind, hmode, Admits, playbackRecord, limitValue, takeOffset, clampNat_zero]
  | mute => rcases hkind with hkind | hkind | hkind <;> simp [handlingOf, presented, hkind, hmode, Admits]
  | guide => rcases hkind with hkind | hkind | hkind <;> simp [handlingOf, presented, hkind, hmode, Admits]

end Guide

theorem handlingOf_admits {s : State} {r : TakeRecord} (h : ¬ BeginsChord s.player s.player.readIdx r) :
    Admits (handlingOf s r) (presented s.player s.player.readIdx r) := by
  cases hkind : r.kind with
  | spacer => simp [handlingOf, presented, hkind, Admits]
  | endMark => simp [handlingOf, presented, hkind, Admits]
  | noteOn =>
    cases hmode : (partAt s.player r.part).mode with
    | mute => simp [handlingOf, presented, hkind, hmode, Admits]
    | play =>
      simp [handlingOf, presented, hkind, hmode, Admits, playbackRecord, limitValue, takeOffset, clampNat_eq_max_min]
    | guide =>
      rw [handlingOf_guideNote hkind hmode, presented_guideNote hkind hmode]
      by_cases hgathered : gathered s.player s.player.readIdx = true
      · rw [if_pos hgathered, if_pos hgathered]; rfl
      · have hfollow : ¬ s.player.follow = true := fun hf => h ⟨hf, hkind, hmode, fun g hg => by
          simpa [gathered, hg] using hgathered⟩
        rw [if_neg hgathered, if_neg hfollow, if_neg hgathered]
        simp [Admits, playbackRecord, limitValue, takeOffset, clampNat_eq_max_min]
  | noteOff =>
    cases hmode : (partAt s.player r.part).mode with
    | mute => simp [handlingOf, presented, hkind, hmode, Admits]
    | play =>
      cases hpair : pairStream s.player.sounding r.part r.key <;>
        simp [handlingOf, presented, hkind, hmode, hpair, Admits, playbackRecord, limitValue, takeOffset]
    | guide =>
      cases hpair : pairStream s.player.lit r.part r.key <;>
        simp [handlingOf, presented, hkind, hmode, hpair, Admits, playbackRecord, limitValue, takeOffset]
  | damper => exact admits_pedal (.inl hkind)
  | sostenuto => exact admits_pedal (.inr (.inl hkind))
  | soft => exact admits_pedal (.inr (.inr hkind))

/-! ## The records due, one after another (R134, R135) -/

/-- One record of the release, as it is stated: what has entered, the Player, and where the release has ended. -/
def releaseOne (a : Area) (room : Nat) (u : List EventRecord × Player × Option Nat) (i : Nat) :
    List EventRecord × Player × Option Nat :=
  match u.2.2, presented u.2.1 i (slotAt a.slots i) with
  | none, some ev => if u.1.length < room then (u.1 ++ [ev], taken ev u.2.1, none) else (u.1, u.2.1, some i)
  | _, _ => u

theorem playbackRun_eq (a : Area) (room : Nat) (due : List Nat) (p : Player) :
    playbackRun a room due p = due.foldl (releaseOne a room) ([], p, none) := rfl

section ReleaseOne

variable {a : Area} {room i : Nat} {evs : List EventRecord} {p : Player} {ev : EventRecord}

theorem releaseOne_skip (h : presented p i (slotAt a.slots i) = none) :
    releaseOne a room (evs, p, none) i = (evs, p, none) := by
  simp only [releaseOne, h]

theorem releaseOne_enters (h : presented p i (slotAt a.slots i) = some ev) (hroom : evs.length < room) :
    releaseOne a room (evs, p, none) i = (evs ++ [ev], taken ev p, none) := by
  simp only [releaseOne, h, if_pos hroom]

theorem releaseOne_refused (h : presented p i (slotAt a.slots i) = some ev) (hfull : ¬ evs.length < room) :
    releaseOne a room (evs, p, none) i = (evs, p, some i) := by
  simp only [releaseOne, h, if_neg hfull]

/-- After a refusal nothing more is released. -/
theorem foldl_releaseOne_ended (l : List Nat) : l.foldl (releaseOne a room) (evs, p, some i) = (evs, p, some i) := by
  induction l with
  | nil => rfl
  | cons j l ih => simpa only [List.foldl_cons, releaseOne] using ih

theorem foldl_releaseOne_same (l : List Nat) (u : List EventRecord × Player × Option Nat) :
    SameSettings u.2.1 (l.foldl (releaseOne a room) u).2.1 := by
  induction l generalizing u with
  | nil => exact .refl _
  | cons j l ih =>
    refine .trans ?_ (ih (releaseOne a room u j))
    unfold releaseOne
    split
    · split
      · exact .taken _ _
      · exact .refl _
    · exact .refl _

end ReleaseOne

/-- A record due by `newPos` and below the limit. -/
def Due (s : State) (newPos i : Nat) : Prop :=
  i < firstEnd s.memory.take ∧ positionOf s.memory.take.slots i * 256 ≤ newPos ∧
    belowLimit s (positionOf s.memory.take.slots i * 256) = true

/-- The state in the middle of a release: what has entered the queue, the Player, and the next slot. -/
def releasing (s : State) (evs : List EventRecord) (p : Player) (i : Nat) : State :=
  { s with queue := { s.queue with records := s.queue.records ++ evs }, player := { p with readIdx := i } }

theorem releasing_start (s : State) : releasing s [] s.player s.player.readIdx = s := by
  simp only [releasing, List.append_nil]

/-- The state at the end of a release up to slot `last`: at the new position, or held at the record refused. -/
def releaseEnd (s : State) (newPos last : Nat) (u : List EventRecord × Player × Option Nat) : State :=
  match u.2.2 with
  | none => advanced newPos (releasing s u.1 { u.2.1 with hold := 0 } last)
  | some i => holdFrame i (advanced (positionOf s.memory.take.slots i * 256) (releasing s u.1 u.2.1 i))

section Run

variable {s : State} {newPos : Nat}

/-- The limit stands along a release. -/
theorem belowLimit_releasing {p : Player} (hsame : SameSettings s.player p) (evs : List EventRecord) (i q : Nat) :
    belowLimit (releasing s evs p i) q = belowLimit s q := by
  have hfree : p.freePlay = s.player.freePlay := by rw [hsame.frame]
  have hactive : p.active = s.player.active := by rw [hsame.frame]
  change (p.freePlay || decide (q < sectionEnd s.memory.take p.active * s.memory.take.header.barLen * 256)) = _
  rw [hfree, hactive]
  rfl

theorem releasable_releasing {p : Player} (hsame : SameSettings s.player p) (evs : List EventRecord) (i : Nat) :
    releasable newPos (releasing s evs p i) = true ↔ Due s newPos i := by
  rw [releasable_iff, belowLimit_releasing hsame]
  rfl

theorem beginsChord_same {p : Player} (hsame : SameSettings s.player p) (i : Nat) (r : TakeRecord) :
    BeginsChord p i r ↔ BeginsChord s.player i r := by
  have hfollow : p.follow = s.player.follow := by rw [hsame.frame]
  have hgather : p.gatherLimit = s.player.gatherLimit := by rw [hsame.frame]
  rw [BeginsChord, BeginsChord, hfollow, hgather, hsame.mode]

/-- The state when the record at hand has entered the queue. -/
theorem pastRecord_releasing (evs : List EventRecord) {p : Player} (hsets : SetsAscending p) (i : Nat) (r : EventRecord) :
    pastRecord ((enqueue (limitValue r) (releasing s evs p i)).mapPlayer (afterRelease r)) =
      releasing s (evs ++ [{ limitValue r with age := 0 }]) (taken { limitValue r with age := 0 } p) (i + 1) := by
  have htaken : taken { limitValue r with age := 0 } p = afterRelease r p := (afterRelease_eq_taken r hsets).symm
  rw [htaken, releasing, releasing, ← List.append_assoc]
  have hplayer := afterRelease_readIdx r i p
  simp only [pastRecord, State.mapPlayer, enqueue, hplayer]

/-- The release from slot `i` with `k` records due: each is passed, admitted or, the first time, refused. -/
theorem runsTo_release (hwithin : if s.player.freePlay then newPos < endPosition s.memory.take * 256 else newPos < passLimit s)
    {k i : Nat} {evs : List EventRecord} {p : Player} (hsame : SameSettings s.player p) (hsets : SetsAscending p)
    (hdue : ∀ j, i ≤ j → j < i + k → Due s newPos j) (hlast : ¬ Due s newPos (i + k))
    (hchord : ∀ j, i ≤ j → j < i + k → ¬ BeginsChord s.player j (slotAt s.memory.take.slots j)) :
    RunsTo (k + 1) (.release newPos) (releasing s evs p i) (releaseEnd s newPos (i + k)
      ((List.range' i k).foldl (releaseOne s.memory.take (64 - s.queue.records.length)) (evs, p, none))) := by
  induction k generalizing i evs p with
  | zero =>
    have hwithin' : if (releasing s evs p i).player.freePlay then newPos < endPosition s.memory.take * 256
        else newPos < passLimit (releasing s evs p i) := by
      have hfree : p.freePlay = s.player.freePlay := by rw [hsame.frame]
      have hactive : p.active = s.player.active := by rw [hsame.frame]
      simpa only [releasing, passLimit, takeArea, hfree, hactive] using hwithin
    exact .step (releaseStep_end (mt (releasable_releasing hsame evs i).1 hlast) hwithin') (.done _)
  | succ k ih =>
    have hhere : Due s newPos i := hdue i (le_refl i) (by omega)
    have hdue' : ∀ j, i + 1 ≤ j → j < i + 1 + k → Due s newPos j := fun j h1 h2 => hdue j (by omega) (by omega)
    have hlast' : ¬ Due s newPos (i + 1 + k) := by rwa [Nat.add_right_comm, Nat.add_assoc]
    have hchord' : ∀ j, i + 1 ≤ j → j < i + 1 + k → ¬ BeginsChord s.player j (slotAt s.memory.take.slots j) :=
      fun j h1 h2 => hchord j (by omega) (by omega)
    have hnext : i + (k + 1) = i + 1 + k := by omega
    let X := releasing s evs p i
    have hrel : releasable newPos X = true := (releasable_releasing hsame evs i).2 hhere
    have hadmits : Admits (handlingOf X (nextRecord X)) (presented p i (slotAt s.memory.take.slots i)) :=
      handlingOf_admits (s := X) (mt (beginsChord_same hsame i _).1 (hchord i (le_refl i) (by omega)))
    rw [List.range'_succ, List.foldl_cons, hnext]
    cases hhandling : handlingOf X (nextRecord X) with
    | skip =>
      rw [hhandling] at hadmits
      rw [releaseOne_skip hadmits]
      exact .step (releaseStep_skip hrel hhandling) (ih hsame hsets hdue' hlast' hchord')
    | gather => rw [hhandling] at hadmits; exact hadmits.elim
    | present r =>
      rw [hhandling] at hadmits
      have hlength : X.queue.records.length = s.queue.records.length + evs.length := List.length_append
      rcases Nat.lt_or_ge X.queue.records.length 64 with hlen | hlen
      · rw [releaseOne_enters hadmits (by omega)]
        have htaken : taken { limitValue r with age := 0 } p = afterRelease r p := (afterRelease_eq_taken r hsets).symm
        refine .step (releaseStep_admitted hrel hhandling (Nat.le_of_lt_succ hlen)) ?_
        rw [pastRecord_releasing evs hsets]
        exact ih (hsame.trans (.taken _ p)) (htaken ▸ afterRelease_ascending r hsets) hdue' hlast' hchord'
      · obtain ⟨-, -, hbelow⟩ := hhere
        have hend : holdRecord X = holdFrame i (advanced (positionOf s.memory.take.slots i * 256) X) :=
          holdRecord_eq (s := X) ((belowLimit_releasing hsame evs i _).trans hbelow)
        rw [releaseOne_refused hadmits (by omega), foldl_releaseOne_ended]
        intro n hn
        refine RunsTo.step (releaseStep_refused hrel hhandling hlen) (.done _) n (by omega) |>.trans hend

end Run

/-- A list of rising numbers that holds, with a number, all between it and `first`, is a range. -/
theorem filter_range_eq_range' {n first : Nat} {f : Nat → Bool} (h : ∀ i j, i ≤ j → f j = true → f i = true) :
    let l := (List.range n).filter (fun i => decide (first ≤ i) && f i)
    l = List.range' first l.length := by
  intro l
  have hsorted : (List.range' first (n - first)).Pairwise (fun i j => f j = true → f i = true) :=
    (List.pairwise_lt_range' (step := 1)).imp fun hij => h _ _ (Nat.le_of_lt hij)
  have hl : l = (List.range' first (n - first)).takeWhile f := by
    rw [takeWhile_eq_filter hsorted, List.range'_eq_map_range, map_add_range_eq_filter, List.filter_filter]
    simp only [l, Bool.and_comm]
  have htake : l = (List.range' first (n - first)).take l.length :=
    List.prefix_iff_eq_take.1 (hl ▸ List.takeWhile_prefix f)
  have hlength := congrArg List.length htake
  rw [List.length_take, List.length_range'] at hlength
  rwa [List.take_range'_of_length_ge (by omega)] at htake

/-- The slots of the records due at a tick. -/
def dueSlots (s : State) (newPos : Nat) : List Nat :=
  (List.range (firstEnd s.memory.take)).filter (fun i => decide (s.player.readIdx ≤ i) &&
    decide (positionOf s.memory.take.slots i * 256 ≤ newPos) && belowLimit s (positionOf s.memory.take.slots i * 256))

section Tick

variable {s : State} {newPos : Nat}

theorem mem_dueSlots {i : Nat} : i ∈ dueSlots s newPos ↔ s.player.readIdx ≤ i ∧ Due s newPos i := by
  simp only [dueSlots, Due, List.mem_filter, List.mem_range, Bool.and_eq_true, decide_eq_true_eq]
  tauto

/-- Positions never fall, so the slots due follow one another. -/
theorem dueSlots_eq_range' : dueSlots s newPos = List.range' s.player.readIdx (dueSlots s newPos).length := by
  have hdown : ∀ i j, i ≤ j →
      (decide (positionOf s.memory.take.slots j * 256 ≤ newPos) &&
        belowLimit s (positionOf s.memory.take.slots j * 256)) = true →
      (decide (positionOf s.memory.take.slots i * 256 ≤ newPos) &&
        belowLimit s (positionOf s.memory.take.slots i * 256)) = true := by
    intro i j hij h
    have hpos := Nat.mul_le_mul_right 256 (positionOf_mono s.memory.take.slots hij)
    simp only [belowLimit, Bool.and_eq_true, Bool.or_eq_true, decide_eq_true_eq] at h ⊢
    exact ⟨hpos.trans h.1, h.2.imp_right (Nat.lt_of_le_of_lt hpos)⟩
  have hrange := filter_range_eq_range' (n := firstEnd s.memory.take) (first := s.player.readIdx) hdown
  simp only [← Bool.and_assoc] at hrange
  exact hrange

theorem mem_dueSlots_iff_range {i : Nat} : i ∈ dueSlots s newPos ↔
    s.player.readIdx ≤ i ∧ i < s.player.readIdx + (dueSlots s newPos).length := by
  conv_lhs => rw [dueSlots_eq_range']
  exact List.mem_range'_1

/-- The advance of a tick with no chord to gather: all the records due are released, or the first refused is held. -/
theorem runsTo_advance (hsets : SetsAscending s.player)
    (hwithin : if s.player.freePlay then s.player.pos + s.player.rate < endPosition s.memory.take * 256
      else s.player.pos + s.player.rate < passLimit s)
    (hchord : ∀ i ∈ dueSlots s (s.player.pos + s.player.rate),
      ¬ BeginsChord s.player i (slotAt s.memory.take.slots i)) :
    let due := dueSlots s (s.player.pos + s.player.rate)
    RunsTo (due.length + 2) .advance s (releaseEnd s (s.player.pos + s.player.rate) (s.player.readIdx + due.length)
      (playbackRun s.memory.take (64 - s.queue.records.length) due s.player)) := by
  intro due
  have hlast : ¬ Due s (s.player.pos + s.player.rate) (s.player.readIdx + due.length) := fun h => by
    have hmem := mem_dueSlots_iff_range.1 (mem_dueSlots.2 ⟨Nat.le_add_right _ _, h⟩)
    exact Nat.lt_irrefl _ hmem.2
  have hrun := runsTo_release hwithin (.refl s.player) hsets (evs := [])
    (fun j h1 h2 => (mem_dueSlots.1 (mem_dueSlots_iff_range.2 ⟨h1, h2⟩)).2) hlast
    (fun j h1 h2 => hchord j (mem_dueSlots_iff_range.2 ⟨h1, h2⟩))
  rw [releasing_start, ← dueSlots_eq_range', ← playbackRun_eq] at hrun
  exact .advance hrun

theorem dueSlots_length : (dueSlots s newPos).length ≤ s.memory.take.header.count :=
  (List.length_filter_le _ _).trans (by rw [List.length_range]; exact firstEnd_le_count _)

/-- A release that ends at a refusal is a held frame at the record's position. -/
theorem releaseEnd_held {u : List EventRecord × Player × Option Nat} {i last : Nat} (hu : u.2.2 = some i)
    (hsame : SameSettings s.player u.2.1) (hhold : s.player.hold ≤ 15) : releaseEnd s newPos last u =
      let held := advanced (positionOf s.memory.take.slots i * 256)
        (releasing s u.1 { u.2.1 with hold := min 15 (s.player.hold + 1) } i)
      if 14 ≤ s.player.hold ∧ s.player.lag = .armed then
        raiseNotice .lag (leBytes 4 (positionOf s.memory.take.slots i) ++ leBytes 2 i)
          { held with player := { held.player with lag := .sent } }
      else held := by
  have hholds : u.2.1.hold = s.player.hold := by rw [hsame.frame]
  have hlags : u.2.1.lag = s.player.lag := by rw [hsame.frame]
  let X := advanced (positionOf s.memory.take.slots i * 256) (releasing s u.1 u.2.1 i)
  have hX : X.player.hold = s.player.hold := hholds
  have hX' : X.player.lag = s.player.lag := hlags
  have hpos : X.player.pos / 256 = positionOf s.memory.take.slots i := Nat.mul_div_cancel _ (by decide)
  have hend : releaseEnd s newPos last u = holdFrame i X := by simp only [releaseEnd, hu]; rfl
  rw [hend, holdFrame_eq i (by rw [hX]; exact hhold), hX, hX', hpos]
  rfl

end Tick

/-- Settles O49: the held NOTE_ON by its refusal or admission, the chord by what is examined and by its room, and the tick by the
release of all the records due. -/
theorem aHeldRecordIsRetried : Obligations.AHeldRecordIsRetried := by
  refine ⟨fun r s hstate hheld hhold hexpected hclean => ?note, ?chord, ?tick⟩
  case note =>
    intro p a newPos limit hr hkind hmode hlisted hreached hbounded hwithin ev
    have hnote : HeldNote r s := ⟨hr, hkind, hmode, hlisted, hreached, hbounded, hwithin⟩
    have hfuel := fuel_ge s
    refine ⟨fun hfull h14 h15 => ?_, fun hfull h14 harmed => ?_, fun hroom hlast => ?_⟩
    · have hquiet : ¬ (14 ≤ s.player.hold ∧ s.player.lag = .armed) := by
        rintro ⟨h14', harmed⟩
        have hsent : ¬ s.player.lag = .sent := by rw [harmed]; decide
        have hne14 : s.player.hold ≠ 14 := h14.resolve_right hsent
        have hne15 : s.player.hold ≠ 15 := h15.resolve_right hsent
        omega
      rw [exec_heldRecordRetry hstate hheld hclean (by omega) (hnote.refused hfull), holdFrame_eq _ hhold]
      simp only [if_neg hquiet]
      rfl
    · have hlag : 14 ≤ s.player.hold ∧ s.player.lag = .armed := ⟨h14.ge, harmed⟩
      have hrun := hnote.refused hfull
      rw [holdFrame_eq _ hhold] at hrun
      simp only [if_pos hlag] at hrun
      have hexec := exec_lag harmed (by rw [raiseNotice_player]) (by omega) (hrun.body hstate hexpected hclean)
      rw [hexec, exec_heldRecordRetry hstate hheld hclean (by omega) hrun]
      refine ⟨?_, rfl⟩
      rw [h14]
      rfl
    · refine ⟨_, exec_heldRecordRetry hstate hheld hclean (by omega) (hnote.admitted hroom hlast), rfl, rfl, ?_, ?_,
        rfl, rfl, rfl, rfl⟩
      · exact (pairStream_insertPair _ _ _ _).trans (if_pos ⟨rfl, rfl⟩)
      · intro part key hne
        exact (pairStream_insertPair _ _ _ _).trans (if_neg fun h => hne (Prod.ext h.1.symm h.2.symm))
  case chord =>
    intro s hstate hheld hclean hfollow p a limit guide pair hguide hungathered hlisted hreached hbounded hwithin examined hits
      taken extra on
    have hc : HeldChord s := ⟨hfollow, hguide, hungathered, hlisted, hreached, hbounded, hwithin⟩
    have hexamined : chordSlots s s.player.readIdx = examined := by
      rw [chordSlots_eq]
      refine List.filter_congr fun i _ => ?_
      have hlimit : belowLimit s (positionOf a.slots i * 256) = decide (positionOf a.slots i * 256 < limit) := by
        have hfree : s.player.freePlay = false := hbounded
        rw [belowLimit, hfree]
        rfl
      rw [inWindow, hlimit, Bool.and_assoc]
    have hchord := chordOf_eq s
    rw [hexamined] at hchord
    have hnotes : (chordOf s).notes = taken.map (noteAt s) := congrArg Machine.Chord.notes hchord
    have hoverflows : (chordOf s).overflows = if extra = 0 then p.overflows else min 65535 (p.overflows + extra) :=
      congrArg Machine.Chord.overflows hchord
    have hgather := gatherChord_eq hreached hc.examined
    rw [hoverflows, hexamined, hnotes, List.map_map] at hgather
    have hlength : (chordOf s).notes.length = taken.length := by rw [hnotes, List.length_map]
    have hsixteen := chordOf_length s
    have hfuel := fuel_ge s
    obtain ⟨q, lit, hframe⟩ := presentChord_frame (chordOf s).notes (gatherChord s)
    refine ⟨presentChord (chordOf s).notes (gatherChord s),
      exec_heldRecordRetry hstate hheld hclean (by omega) hc.gathers, ?_, fun hroom => ?_, fun hfull => ?_⟩
    · rw [hframe, hgather]
      rfl
    · have hroom' : (gatherChord s).queue.records.length + (chordOf s).notes.length ≤ 64 := by
        rw [hlength, hgather]; exact hroom
      rw [presentChord_room hroom', hgather, hnotes]
      refine ⟨?_, fun i hi => ?_⟩
      · rw [List.map_map]; rfl
      · exact pairStream_foldl_lightNote _ (.inl ⟨noteAt s i, List.mem_map_of_mem hi, rfl, rfl⟩)
    · rw [presentChord_full _ (by rw [hgather]; exact hfull), hgather]
      exact ⟨rfl, rfl⟩
  case tick =>
    intro s hstate hhold hexpected hclean hpending hsounding hlit p a newPos limit due chord all t moved hwithin hchord
    have hadvance := runsTo_advance (s := s) ⟨hsounding, hlit⟩ hwithin hchord
    have hfuel := fuel_ge s
    have hdue := dueSlots_length (s := s) (newPos := s.player.pos + s.player.rate)
    have hsame : SameSettings s.player all.2.1 := foldl_releaseOne_same _ ([], s.player, none)
    have ht : t = releaseEnd s newPos (s.player.readIdx + due.length) all :=
      ((hadvance.body hstate hexpected hclean).cue hpending) _ (by omega)
    refine ⟨fun hall => ?_, fun i hi => ?_, fun hheld => ?_⟩
    · rw [ht, releaseEnd, hall]
      rfl
    · intro held
      rw [ht, releaseEnd_held hi hsame hhold]
      rfl
    · rw [exec_heldRecordRetry hstate hheld hclean (by omega) hadvance, ht]
      rfl

end Sys2Proof.Proofs.TickRelease

/-! PROOFS. Chapters 06 and 09: what the other blocks leave alone. The Rail Controller and the Mixer are changed by their own
operations and, of the Mixer, by the beats and ends of pass the Player hands it; every other operation leaves both as they were.
One lemma per operation, so that no proof about the rail or the Mixer opens the work of another block. -/

namespace Sys2Proof.Proofs.OtherBlocks

open Sys2Proof.Machine
open Sys2Proof.Proofs.Pedals (OnlyRecorderWork captureObserve_onlyRecorderWork closeCapture_onlyRecorderWork
  closeByReserve_onlyRecorderWork)

/-! ## The Capture Recorder -/

theorem rail_mixer_of_onlyRecorderWork {s t : State} (h : OnlyRecorderWork s t) :
    t.rail = s.rail ∧ t.mixer = s.mixer := by
  rw [h]; exact ⟨rfl, rfl⟩

@[simp] theorem captureObserve_rail_mixer (ev : EventRecord) (s : State) :
    (captureObserve ev s).rail = s.rail ∧ (captureObserve ev s).mixer = s.mixer :=
  rail_mixer_of_onlyRecorderWork (captureObserve_onlyRecorderWork ev s)

@[simp] theorem closeCapture_rail_mixer (s : State) :
    (closeCapture s).rail = s.rail ∧ (closeCapture s).mixer = s.mixer :=
  rail_mixer_of_onlyRecorderWork (closeCapture_onlyRecorderWork s)

@[simp] theorem closeByReserve_rail_mixer (kind : TakeKind) (s : State) :
    (closeByReserve kind s).rail = s.rail ∧ (closeByReserve kind s).mixer = s.mixer :=
  rail_mixer_of_onlyRecorderWork (closeByReserve_onlyRecorderWork kind s)

@[simp] theorem startCapture_rail_mixer (s : State) :
    (startCapture s).rail = s.rail ∧ (startCapture s).mixer = s.mixer := ⟨rfl, rfl⟩

@[simp] theorem recorderCue_rail_mixer (cue : Bool) (s : State) :
    (recorderCue cue s).rail = s.rail ∧ (recorderCue cue s).mixer = s.mixer := by
  unfold recorderCue; split <;> simp

@[simp] theorem tickSpacers_rail_mixer (n : Nat) (s : State) :
    (tickSpacers n s).rail = s.rail ∧ (tickSpacers n s).mixer = s.mixer := by
  induction n generalizing s with
  | zero => exact ⟨rfl, rfl⟩
  | succ n ih =>
    unfold tickSpacers
    split
    · exact ih (appendSpacer s)
    · exact closeByReserve_rail_mixer _ s

@[simp] theorem recorderSpacers_rail_mixer (s : State) :
    (recorderSpacers s).rail = s.rail ∧ (recorderSpacers s).mixer = s.mixer := by
  unfold recorderSpacers; split <;> simp

@[simp] theorem recorderAdvance_rail_mixer (amount : Nat) (s : State) :
    (recorderAdvance amount s).rail = s.rail ∧ (recorderAdvance amount s).mixer = s.mixer := by
  unfold recorderAdvance; split <;> exact ⟨rfl, rfl⟩

/-! ## Event Queue and follow mode -/

@[simp] theorem presentPlayback_rail_mixer (r : EventRecord) (s : State) :
    (presentPlayback r s).1.rail = s.rail ∧ (presentPlayback r s).1.mixer = s.mixer := by
  unfold presentPlayback; split <;> simp

@[simp] theorem followMatch_rail_mixer (part key : Nat) (s : State) :
    (followMatch part key s).rail = s.rail ∧ (followMatch part key s).mixer = s.mixer := by
  unfold followMatch
  dsimp only
  split
  · exact ⟨rfl, rfl⟩
  · split_ifs <;> simp

@[simp] theorem followMiss_rail_mixer (ev : EventRecord) (s : State) :
    (followMiss ev s).rail = s.rail ∧ (followMiss ev s).mixer = s.mixer := by
  simp [followMiss]

@[simp] theorem observeLive_rail_mixer (ev : EventRecord) (s : State) :
    (observeLive ev s).rail = s.rail ∧ (observeLive ev s).mixer = s.mixer := by
  unfold observeLive followObserve
  split
  · split <;> simp
  · simp

@[simp] theorem refuseLive_rail_mixer (ev : EventRecord) (s : State) :
    (refuseLive ev s).rail = s.rail ∧ (refuseLive ev s).mixer = s.mixer := by
  unfold refuseLive raiseOverrun
  dsimp only
  split
  · split <;> simp
  · exact ⟨rfl, rfl⟩

@[simp] theorem presentLive_rail_mixer (ev : EventRecord) (s : State) :
    (presentLive ev s).1.rail = s.rail ∧ (presentLive ev s).1.mixer = s.mixer := by
  unfold presentLive; split <;> simp

/-! ## Key Tracker -/

@[simp] theorem attemptNoteOn_rail_mixer (k : KeyIdx) (velocity offset : Nat) (isRepeat : Bool) (s : State) :
    (attemptNoteOn k velocity offset isRepeat s).rail = s.rail ∧
      (attemptNoteOn k velocity offset isRepeat s).mixer = s.mixer := by
  simp [attemptNoteOn]

@[simp] theorem attemptNoteOff_rail_mixer (k : KeyIdx) (s : State) :
    (attemptNoteOff k s).rail = s.rail ∧ (attemptNoteOff k s).mixer = s.mixer := by
  simp [attemptNoteOff]

@[simp] theorem enterRest_rail_mixer (k : KeyIdx) (s : State) :
    (enterRest k s).rail = s.rail ∧ (enterRest k s).mixer = s.mixer := by
  unfold enterRest
  dsimp only
  split
  · split <;> simp
  · split <;> simp
  all_goals simp

@[simp] theorem strike_rail_mixer (k : KeyIdx) (p : SamplePair) (s : State) :
    (strike k p s).rail = s.rail ∧ (strike k p s).mixer = s.mixer := by
  unfold strike
  dsimp only
  split <;> simp

@[simp] theorem restrike_rail_mixer (k : KeyIdx) (p : SamplePair) (s : State) :
    (restrike k p s).rail = s.rail ∧ (restrike k p s).mixer = s.mixer := by
  unfold restrike
  dsimp only
  split <;> simp

@[simp] theorem motionStep_rail_mixer (k : KeyIdx) (p : SamplePair) (s : State) :
    (motionStep k p s).rail = s.rail ∧ (motionStep k p s).mixer = s.mixer := by
  unfold motionStep
  dsimp only
  split
  case h_7 => exact ⟨rfl, rfl⟩
  all_goals split_ifs <;> simp

@[simp] theorem goodSample_rail_mixer (k : KeyIdx) (raw : Nat) (s : State) :
    (goodSample k raw s).rail = s.rail ∧ (goodSample k raw s).mixer = s.mixer := by
  unfold goodSample
  dsimp only
  split <;> simp [settleSample, firstSample]

@[simp] theorem listFault_rail_mixer (k : KeyIdx) (s : State) :
    (listFault k s).rail = s.rail ∧ (listFault k s).mixer = s.mixer := by
  unfold listFault; split <;> exact ⟨rfl, rfl⟩

@[simp] theorem faultSettleNote_rail_mixer (k : KeyIdx) (s : State) :
    (faultSettleNote k s).rail = s.rail ∧ (faultSettleNote k s).mixer = s.mixer := by
  unfold faultSettleNote; split <;> simp

@[simp] theorem faultSample_rail_mixer (k : KeyIdx) (raw : Nat) (s : State) :
    (faultSample k raw s).rail = s.rail ∧ (faultSample k raw s).mixer = s.mixer := by
  unfold faultSample
  dsimp only
  split <;> simp [enterFault]

@[simp] theorem keySample_rail_mixer (k : KeyIdx) (raw : Nat) (s : State) :
    (keySample k raw s).rail = s.rail ∧ (keySample k raw s).mixer = s.mixer := by
  unfold keySample
  dsimp only
  split_ifs <;> simp

@[simp] theorem flightTick_rail_mixer (s : State) :
    (flightTick s).rail = s.rail ∧ (flightTick s).mixer = s.mixer := ⟨rfl, rfl⟩

@[simp] theorem retryOwed_rail_mixer (k : KeyIdx) (s : State) :
    (retryOwed k s).rail = s.rail ∧ (retryOwed k s).mixer = s.mixer := by
  unfold retryOwed; split <;> simp

@[simp] theorem retryAllOwed_rail_mixer (s : State) :
    (retryAllOwed s).rail = s.rail ∧ (retryAllOwed s).mixer = s.mixer :=
  List.foldlRecOn (motive := fun (t : State) => t.rail = s.rail ∧ t.mixer = s.mixer) allKeys _ ⟨rfl, rfl⟩
    fun t ht k _ => by simp [ht]

/-! ## Pedal Unit -/

@[simp] theorem attemptPedal_rail_mixer (p : PedalIdx) (s : State) :
    (attemptPedal p s).rail = s.rail ∧ (attemptPedal p s).mixer = s.mixer := by
  unfold attemptPedal
  dsimp only
  split <;> simp

@[simp] theorem considerPedal_rail_mixer (p : PedalIdx) (s : State) :
    (considerPedal p s).rail = s.rail ∧ (considerPedal p s).mixer = s.mixer := by
  unfold considerPedal
  dsimp only
  split_ifs <;> simp

@[simp] theorem releaseKeys_rail_mixer (ks : List KeyIdx) (s : State) :
    (releaseKeys ks s).rail = s.rail ∧ (releaseKeys ks s).mixer = s.mixer :=
  List.foldlRecOn (motive := fun (t : State) => t.rail = s.rail ∧ t.mixer = s.mixer) ks _ ⟨rfl, rfl⟩
    fun t ht k _ => by unfold releaseRequest; split <;> simp [ht]

@[simp] theorem sostenutoRelease_rail_mixer (s : State) :
    (sostenutoRelease s).rail = s.rail ∧ (sostenutoRelease s).mixer = s.mixer := by
  unfold sostenutoRelease clearSostenuto; split <;> simp

@[simp] theorem updateSostenuto_rail_mixer (s : State) :
    (updateSostenuto s).rail = s.rail ∧ (updateSostenuto s).mixer = s.mixer := by
  unfold updateSostenuto
  dsimp only
  split <;> exact ⟨rfl, rfl⟩

@[simp] theorem updateDamper_rail_mixer (s : State) :
    (updateDamper s).rail = s.rail ∧ (updateDamper s).mixer = s.mixer := by
  unfold updateDamper damperRelease
  dsimp only
  split <;> simp

@[simp] theorem pedalSamples_rail_mixer (words : List ScanWord) (s : State) :
    (pedalSamples words s).rail = s.rail ∧ (pedalSamples words s).mixer = s.mixer := by
  unfold pedalSamples takePedal
  dsimp only
  split <;> simp

/-! ## Calibration Unit and Settings Store -/

@[simp] theorem updateKeys_rail_mixer (f : KeyIdx → KeyRecord → KeyRecord) (s : State) :
    (updateKeys f s).rail = s.rail ∧ (updateKeys f s).mixer = s.mixer := ⟨rfl, rfl⟩

@[simp] theorem calJobTick_rail_mixer (s : State) :
    (calJobTick s).rail = s.rail ∧ (calJobTick s).mixer = s.mixer := by
  unfold calJobTick endJob
  dsimp only
  split_ifs <;> simp

@[simp] theorem clearFaults_rail_mixer (ks : List KeyIdx) (s : State) :
    (clearFaults ks s).rail = s.rail ∧ (clearFaults ks s).mixer = s.mixer := by
  have hkeys : (ks.foldl (fun t k => clearFault k t) s).rail = s.rail ∧
      (ks.foldl (fun t k => clearFault k t) s).mixer = s.mixer :=
    List.foldlRecOn (motive := fun (t : State) => t.rail = s.rail ∧ t.mixer = s.mixer) ks _ ⟨rfl, rfl⟩
      fun t ht k _ => by unfold clearFault; split <;> simp [ht]
  unfold clearFaults settleOverflow
  split <;> simp [hkeys]

@[simp] theorem completeSave_rail_mixer (readBackMatches : Bool) (s : State) :
    (completeSave readBackMatches s).rail = s.rail ∧ (completeSave readBackMatches s).mixer = s.mixer := by
  simp [completeSave]

@[simp] theorem storeTick_rail_mixer (done readBackMatches : Bool) (s : State) :
    (storeTick done readBackMatches s).rail = s.rail ∧ (storeTick done readBackMatches s).mixer = s.mixer := by
  unfold storeTick
  dsimp only
  split_ifs <;> simp

/-! ## Scan Receiver and Message Unit -/

@[simp] theorem settleScanBad_rail_mixer (s : State) :
    (settleScanBad s).rail = s.rail ∧ (settleScanBad s).mixer = s.mixer := by
  unfold settleScanBad raiseScanLost
  dsimp only
  split <;> simp

@[simp] theorem scanTick_rail_mixer (s : State) :
    (scanTick s).rail = s.rail ∧ (scanTick s).mixer = s.mixer := by
  unfold scanTick
  dsimp only
  split <;> simp

@[simp] theorem linkTick_rail_mixer (s : State) :
    (linkTick s).rail = s.rail ∧ (linkTick s).mixer = s.mixer := by
  unfold linkTick settleLinkBad; split <;> simp

@[simp] theorem settleLinkGood_rail_mixer (s : State) :
    (settleLinkGood s).rail = s.rail ∧ (settleLinkGood s).mixer = s.mixer := by
  unfold settleLinkGood
  split
  · simp
  · split <;> simp

@[simp] theorem refuseMessage_rail_mixer (bytes : List Byte) (code : ErrorCode) (s : State) :
    (refuseMessage bytes code s).rail = s.rail ∧ (refuseMessage bytes code s).mixer = s.mixer := by
  unfold refuseMessage
  dsimp only
  split <;> simp

@[simp] theorem sendUpstream_rail_mixer (s : State) :
    (sendUpstream s).rail = s.rail ∧ (sendUpstream s).mixer = s.mixer := by
  unfold sendUpstream chooseSegment; split <;> simp

/-! ## The Player's work that hands the Mixer nothing -/

@[simp] theorem presentFlushItem_rail_mixer (i : FlushItem) (s : State) :
    (presentFlushItem i s).1.rail = s.rail ∧ (presentFlushItem i s).1.mixer = s.mixer := by
  cases i with
  | noteOff q => unfold presentFlushItem presentNoteOff; dsimp only; split <;> simp
  | damper n => unfold presentFlushItem presentDamperZero; dsimp only; split <;> simp
  | guideOff q => unfold presentFlushItem presentGuideOff; dsimp only; split <;> simp

@[simp] theorem holdFrame_rail_mixer (slot : Nat) (s : State) :
    (holdFrame slot s).rail = s.rail ∧ (holdFrame slot s).mixer = s.mixer := by
  unfold holdFrame
  dsimp only
  split <;> simp

@[simp] theorem enterStopped_rail_mixer (why : StopReason) (s : State) :
    (enterStopped why s).rail = s.rail ∧ (enterStopped why s).mixer = s.mixer := by
  simp [enterStopped]

@[simp] theorem presentGuideOn_rail_mixer (n : ChordNote) (s : State) :
    (presentGuideOn n s).rail = s.rail ∧ (presentGuideOn n s).mixer = s.mixer := by
  unfold presentGuideOn
  dsimp only
  split <;> simp

@[simp] theorem cleanupStep_rail_mixer (s : State) :
    (cleanupStep s).2.rail = s.rail ∧ (cleanupStep s).2.mixer = s.mixer := by
  unfold cleanupStep
  split
  · dsimp only
    split <;> simp [pruneExpected]
  · exact ⟨rfl, rfl⟩

@[simp] theorem runCleanup_rail_mixer (n : Nat) (s : State) :
    (runCleanup n s).rail = s.rail ∧ (runCleanup n s).mixer = s.mixer := by
  induction n generalizing s with
  | zero => exact ⟨rfl, rfl⟩
  | succ n ih =>
    unfold runCleanup
    split
    · simp [ih]
    · simp

/-! ## Messages of the other blocks (R171) -/

theorem keyCalReadOp_rail_mixer (b : List Byte) (s : State) :
    (keyCalReadOp b s).1.rail = s.rail ∧ (keyCalReadOp b s).1.mixer = s.mixer := by
  unfold keyCalReadOp
  split_ifs <;> exact ⟨rfl, rfl⟩

theorem keyStateReadOp_rail_mixer (b : List Byte) (s : State) :
    (keyStateReadOp b s).1.rail = s.rail ∧ (keyStateReadOp b s).1.mixer = s.mixer := by
  unfold keyStateReadOp
  split_ifs <;> exact ⟨rfl, rfl⟩

theorem curveReadOp_rail_mixer (b : List Byte) (s : State) :
    (curveReadOp b s).1.rail = s.rail ∧ (curveReadOp b s).1.mixer = s.mixer := by
  unfold curveReadOp
  split_ifs <;> exact ⟨rfl, rfl⟩

theorem curveWriteOp_rail_mixer (b : List Byte) (s : State) :
    (curveWriteOp b s).1.rail = s.rail ∧ (curveWriteOp b s).1.mixer = s.mixer := by
  unfold curveWriteOp
  dsimp only
  split_ifs <;> exact ⟨rfl, rfl⟩

theorem trackConfigOp_rail_mixer (b : List Byte) (s : State) :
    (trackConfigOp b s).1.rail = s.rail ∧ (trackConfigOp b s).1.mixer = s.mixer := by
  unfold trackConfigOp
  dsimp only
  split_ifs <;> exact ⟨rfl, rfl⟩

theorem calibrateRestOp_rail_mixer (b : List Byte) (s : State) :
    (calibrateRestOp b s).1.rail = s.rail ∧ (calibrateRestOp b s).1.mixer = s.mixer := by
  unfold calibrateRestOp
  dsimp only
  split_ifs <;> exact ⟨rfl, rfl⟩

theorem faultListReadOp_rail_mixer (b : List Byte) (s : State) :
    (faultListReadOp b s).1.rail = s.rail ∧ (faultListReadOp b s).1.mixer = s.mixer := by
  unfold faultListReadOp
  split_ifs <;> exact ⟨rfl, rfl⟩

theorem nvSaveOp_rail_mixer (b : List Byte) (s : State) :
    (nvSaveOp b s).1.rail = s.rail ∧ (nvSaveOp b s).1.mixer = s.mixer := by
  unfold nvSaveOp
  split_ifs <;> exact ⟨rfl, rfl⟩

theorem takeHeaderWriteOp_rail_mixer (b : List Byte) (s : State) :
    (takeHeaderWriteOp b s).1.rail = s.rail ∧ (takeHeaderWriteOp b s).1.mixer = s.mixer := by
  unfold takeHeaderWriteOp
  dsimp only
  split_ifs <;> exact ⟨rfl, rfl⟩

theorem captureReadOp_rail_mixer (b : List Byte) (s : State) :
    (captureReadOp b s).1.rail = s.rail ∧ (captureReadOp b s).1.mixer = s.mixer := by
  unfold captureReadOp
  dsimp only
  split_ifs <;> exact ⟨rfl, rfl⟩

theorem recordStartOp_rail_mixer (b : List Byte) (s : State) :
    (recordStartOp b s).1.rail = s.rail ∧ (recordStartOp b s).1.mixer = s.mixer := by
  unfold recordStartOp
  dsimp only
  split_ifs <;> exact ⟨rfl, rfl⟩

theorem promoteOp_rail_mixer (b : List Byte) (s : State) :
    (promoteOp b s).1.rail = s.rail ∧ (promoteOp b s).1.mixer = s.mixer := by
  unfold promoteOp
  dsimp only
  split_ifs <;> exact ⟨rfl, rfl⟩

theorem statusOp_rail_mixer (b : List Byte) (s : State) :
    (statusOp b s).1.rail = s.rail ∧ (statusOp b s).1.mixer = s.mixer := by
  unfold statusOp
  split_ifs <;> exact ⟨rfl, rfl⟩

theorem identifyOp_rail_mixer (b : List Byte) (s : State) :
    (identifyOp b s).1.rail = s.rail ∧ (identifyOp b s).1.mixer = s.mixer := by
  unfold identifyOp
  split_ifs <;> exact ⟨rfl, rfl⟩

theorem resetOp_rail_mixer (b : List Byte) (s : State) :
    (resetOp b s).1.rail = s.rail ∧ (resetOp b s).1.mixer = s.mixer := by
  unfold resetOp
  split_ifs <;> exact ⟨rfl, rfl⟩

theorem keyCalWriteOp_rail_mixer (b : List Byte) (s : State) :
    (keyCalWriteOp b s).1.rail = s.rail ∧ (keyCalWriteOp b s).1.mixer = s.mixer := by
  unfold keyCalWriteOp
  split
  · exact ⟨rfl, rfl⟩
  · split
    · exact ⟨rfl, rfl⟩
    · dsimp only
      split_ifs <;> exact ⟨rfl, rfl⟩

theorem pedalCalWriteOp_rail_mixer (b : List Byte) (s : State) :
    (pedalCalWriteOp b s).1.rail = s.rail ∧ (pedalCalWriteOp b s).1.mixer = s.mixer := by
  unfold pedalCalWriteOp
  split
  · exact ⟨rfl, rfl⟩
  · split
    · exact ⟨rfl, rfl⟩
    · dsimp only
      split <;> exact ⟨rfl, rfl⟩

theorem pedalCalReadOp_rail_mixer (b : List Byte) (s : State) :
    (pedalCalReadOp b s).1.rail = s.rail ∧ (pedalCalReadOp b s).1.mixer = s.mixer := by
  unfold pedalCalReadOp
  split
  · exact ⟨rfl, rfl⟩
  · split <;> exact ⟨rfl, rfl⟩

theorem faultClearOp_rail_mixer (b : List Byte) (s : State) :
    (faultClearOp b s).1.rail = s.rail ∧ (faultClearOp b s).1.mixer = s.mixer := by
  unfold faultClearOp
  split
  · exact ⟨rfl, rfl⟩
  · split
    · exact ⟨rfl, rfl⟩
    · exact clearFaults_rail_mixer _ s

theorem takeWriteOp_rail_mixer (b : List Byte) (s : State) :
    (takeWriteOp b s).1.rail = s.rail ∧ (takeWriteOp b s).1.mixer = s.mixer := by
  unfold takeWriteOp
  split_ifs
  · exact ⟨rfl, rfl⟩
  · exact ⟨rfl, rfl⟩
  · exact ⟨rfl, rfl⟩
  · split <;> exact ⟨rfl, rfl⟩

theorem recordStopOp_rail_mixer (b : List Byte) (s : State) :
    (recordStopOp b s).1.rail = s.rail ∧ (recordStopOp b s).1.mixer = s.mixer := by
  unfold recordStopOp
  split
  · exact ⟨rfl, rfl⟩
  · split
    · exact ⟨rfl, rfl⟩
    · exact ⟨rfl, rfl⟩
    · exact closeCapture_rail_mixer s

theorem sectionWriteOp_rail_mixer (b : List Byte) (s : State) :
    (sectionWriteOp b s).1.rail = s.rail ∧ (sectionWriteOp b s).1.mixer = s.mixer := by
  unfold sectionWriteOp
  dsimp only
  split_ifs <;> exact ⟨rfl, rfl⟩

theorem sectionApplyOp_rail_mixer (b : List Byte) (s : State) :
    (sectionApplyOp b s).1.rail = s.rail ∧ (sectionApplyOp b s).1.mixer = s.mixer := by
  unfold sectionApplyOp
  dsimp only
  split_ifs <;> exact ⟨rfl, rfl⟩

theorem playStartOp_rail_mixer (b : List Byte) (s : State) :
    (playStartOp b s).1.rail = s.rail ∧ (playStartOp b s).1.mixer = s.mixer := by
  unfold playStartOp
  dsimp only
  split_ifs <;> exact ⟨rfl, rfl⟩

theorem playRateOp_rail_mixer (b : List Byte) (s : State) :
    (playRateOp b s).1.rail = s.rail ∧ (playRateOp b s).1.mixer = s.mixer := by
  unfold playRateOp
  dsimp only
  split_ifs <;> exact ⟨rfl, rfl⟩

theorem partModeOp_rail_mixer (b : List Byte) (s : State) :
    (partModeOp b s).1.rail = s.rail ∧ (partModeOp b s).1.mixer = s.mixer := by
  unfold partModeOp
  dsimp only
  split_ifs <;> exact ⟨rfl, rfl⟩

theorem followConfigOp_rail_mixer (b : List Byte) (s : State) :
    (followConfigOp b s).1.rail = s.rail ∧ (followConfigOp b s).1.mixer = s.mixer := by
  unfold followConfigOp
  dsimp only
  split_ifs <;> exact ⟨rfl, rfl⟩

end Sys2Proof.Proofs.OtherBlocks

/-! PROOFS. Chapters 06 and 09: what every step keeps of the rail and the Mixer (R92, R97, R111, R158, R164). First the two
relations the proof turns on: a step that is quiet (rail and gate as they were, the Mixer's bounds kept) and a step that keeps
the invariant. Then the Mixer's and the Player's work, which is quiet; the rail's own work and every message, which keep the
invariant; the frame tick, where the evaluation that may come late finds a rail that does not drive; and the statement. -/

namespace Sys2Proof.Proofs.MixerBounds

open Sys2Proof.Machine
open Sys2Proof.Proofs.OtherBlocks

/-! ## Quiet steps and steps that keep the invariant -/

/-- The rail and the Mixer's gate are as they were, and the Mixer's bounds are kept. -/
structure Quiet (s t : State) : Prop where
  rail : t.rail = s.rail
  gate : t.mixer.gate = s.mixer.gate
  balance : balanceBounded s → balanceBounded t
  samples : samplesBounded s → samplesBounded t

/-- The Mixer's bounds and the agreement of the gates are kept. -/
structure BoundsKept (s t : State) : Prop where
  balance : balanceBounded s → balanceBounded t
  samples : samplesBounded s → samplesBounded t
  gate : gateAgrees s → gateAgrees t

/-- What the statement says of one step, for any two states. -/
structure Keeps (s t : State) : Prop extends BoundsKept s t where
  driver : driverGuarded s → driverGuarded t

/-- An operation that leaves the rail and the Mixer alone is quiet. -/
theorem Quiet.of_rail_mixer {s t : State} (h : t.rail = s.rail ∧ t.mixer = s.mixer) : Quiet s t := by
  obtain ⟨hrail, hmixer⟩ := h
  exact ⟨hrail, by rw [hmixer], by unfold balanceBounded; rw [hmixer]; exact id,
    by unfold samplesBounded; rw [hmixer]; exact id⟩

theorem Quiet.refl (s : State) : Quiet s s := .of_rail_mixer ⟨rfl, rfl⟩

theorem Quiet.trans {s t u : State} (h : Quiet s t) (h' : Quiet t u) : Quiet s u :=
  ⟨h'.rail.trans h.rail, h'.gate.trans h.gate, h'.balance ∘ h.balance, h'.samples ∘ h.samples⟩

theorem Quiet.keeps {s t : State} (h : Quiet s t) : Keeps s t where
  balance := h.balance
  samples := h.samples
  gate := by unfold gateAgrees; rw [h.rail, h.gate]; exact id
  driver := by unfold driverGuarded; rw [h.rail]; exact id

theorem BoundsKept.trans {s t u : State} (h : BoundsKept s t) (h' : BoundsKept t u) : BoundsKept s u :=
  ⟨h'.balance ∘ h.balance, h'.samples ∘ h.samples, h'.gate ∘ h.gate⟩

theorem Keeps.of_rail_mixer {s t : State} (h : t.rail = s.rail ∧ t.mixer = s.mixer) : Keeps s t :=
  (Quiet.of_rail_mixer h).keeps

theorem Keeps.refl (s : State) : Keeps s s := (Quiet.refl s).keeps

theorem Keeps.trans {s t u : State} (h : Keeps s t) (h' : Keeps t u) : Keeps s u :=
  ⟨h.toBoundsKept.trans h'.toBoundsKept, h'.driver ∘ h.driver⟩

/-- A step that leaves the rail and the Mixer alone, followed by one that keeps the invariant. -/
theorem Keeps.after {s t u : State} (h' : Keeps t u) (h : t.rail = s.rail ∧ t.mixer = s.mixer) : Keeps s u :=
  (Keeps.of_rail_mixer h).trans h'

/-! ## The Mixer's work (R153 to R164) -/

/-- A change of the Mixer that leaves gate, balance, fade, pending change and samples as they were is quiet. -/
theorem Quiet.of_mixer {s t : State} (hrail : t.rail = s.rail) (hgate : t.mixer.gate = s.mixer.gate)
    (hbal : t.mixer.bal = s.mixer.bal) (hfade : t.mixer.fade = s.mixer.fade)
    (hpending : t.mixer.pendingBal = s.mixer.pendingBal) (hsamples : t.mixer.headphone = s.mixer.headphone) : Quiet s t :=
  ⟨hrail, hgate, by unfold balanceBounded; rw [hbal, hfade, hpending]; exact id,
    by unfold samplesBounded; rw [hsamples]; exact id⟩

theorem startClick_quiet (beat : Nat) (s : State) : Quiet s (startClick beat s) := by
  unfold startClick
  split
  · exact .of_mixer rfl rfl rfl rfl rfl rfl
  · exact .refl s

/-- A triggered change makes the balance its target, or a fade toward it, and leaves no change pending (R157). -/
theorem triggerBalance_quiet (s : State) : Quiet s { s with mixer := triggerBalance s.mixer } := by
  unfold triggerBalance
  split
  · exact .refl s
  next p hpending =>
    split
    · refine ⟨rfl, rfl, fun ⟨_, _, htarget⟩ => ⟨htarget p hpending, ?_, ?_⟩, id⟩ <;> simp
    · refine ⟨rfl, rfl, fun ⟨hbal, _, htarget⟩ => ⟨hbal, ?_, ?_⟩, id⟩
      · rintro f ⟨⟩
        exact htarget p hpending
      · simp

theorem handCause_quiet (cause : BalanceCause) (s : State) : Quiet s (handCause cause s) := by
  unfold handCause
  split
  · exact triggerBalance_quiet s
  · exact .refl s

/-- A fade step leaves the balance between where it stood and its target (R158). -/
theorem fadeStep_quiet (s : State) : Quiet s (s.mapMixer fadeStep) := by
  cases hfade : s.mixer.fade with
  | none =>
    have hstep : fadeStep s.mixer = s.mixer := by simp [fadeStep, hfade]
    exact .of_rail_mixer ⟨rfl, hstep⟩
  | some f =>
    obtain ⟨bal, hbetween, hmixer⟩ : ∃ b ≤ max s.mixer.bal f.target, fadeStep s.mixer = { s.mixer with
        bal := b, fade := if f.remaining ≤ 1 then none else some { f with remaining := f.remaining - 1 } } :=
      ⟨_, (fadeStep_between s.mixer f hfade).2, by simp [fadeStep, hfade]⟩
    rw [State.mapMixer, hmixer]
    refine ⟨rfl, rfl, fun ⟨hbal, htarget, hpending⟩ =>
      ⟨hbetween.trans (max_le hbal (htarget f hfade)), ?_, hpending⟩, id⟩
    intro g hg
    dsimp only at hg
    split at hg
    · contradiction
    · cases hg
      exact htarget f hfade

theorem mixApplyMode_quiet (s : State) : Quiet s (s.mapMixer mixApplyMode) := by
  have hmixer : s.mapMixer mixApplyMode = { s with mixer := mixApplyMode s.mixer } := rfl
  rw [hmixer]
  unfold mixApplyMode
  split
  · exact .refl s
  · exact .of_mixer rfl rfl rfl rfl rfl rfl

/-- The six samples formed are limited ones, whatever they were formed from (R164). -/
theorem formSamples_quiet (s : State) : Quiet s (s.mapMixer formSamples) := by
  refine ⟨rfl, rfl, id, fun _ p hp => ?_⟩
  obtain ⟨r, _, rfl⟩ := List.mem_map.1 hp
  exact ⟨limit24_range r.1, limit24_range r.2⟩

/-! ## The Player's work (R132 to R150) -/

/-- A quiet step followed by one that leaves the rail and the Mixer alone. -/
theorem Quiet.andThen {s t u : State} (h : Quiet s t) (h' : u.rail = t.rail ∧ u.mixer = t.mixer) : Quiet s u :=
  h.trans (.of_rail_mixer h')

/-- A step that leaves the rail and the Mixer alone, followed by a quiet one. -/
theorem Quiet.after {s t u : State} (h' : Quiet t u) (h : t.rail = s.rail ∧ t.mixer = s.mixer) : Quiet s u :=
  (Quiet.of_rail_mixer h).trans h'

theorem crossBeat_quiet (m : Nat) (s : State) : Quiet s (crossBeat m s) := by
  unfold crossBeat
  dsimp only
  split
  · exact (startClick_quiet _ s).trans (handCause_quiet _ _)
  · exact startClick_quiet _ s

theorem advanceTo_quiet (q : Nat) (s : State) : Quiet s (advanceTo q s) := by
  unfold advanceTo
  dsimp only
  split
  · exact (crossBeat_quiet _ _).after (by simp)
  · exact .of_rail_mixer (by simp)

theorem announce_quiet (s : State) : Quiet s (announce s) := startClick_quiet 1 s

theorem searchStep_quiet (s : State) : Quiet s (searchStep s) := by
  unfold searchStep
  split
  · exact .refl s
  · split
    · exact (announce_quiet _).after ⟨rfl, rfl⟩
    · exact .of_rail_mixer ⟨rfl, rfl⟩

theorem flushDecision_quiet (s : State) : Quiet s (flushDecision s) := by
  have hstop (why : StopReason) : Quiet s (enterStopped why s) := .of_rail_mixer (enterStopped_rail_mixer why s)
  have hfree : Quiet s (beginFreePlay s) := (announce_quiet _).after ⟨rfl, rfl⟩
  unfold flushDecision
  dsimp only
  split
  · split_ifs
    · exact .of_rail_mixer ⟨rfl, rfl⟩
    · exact hstop _
    · exact .of_rail_mixer ⟨rfl, rfl⟩
    · exact hstop _
    · exact hfree
  · split
    · exact .of_rail_mixer ⟨rfl, rfl⟩
    · exact hstop _
  · exact hstop _
  · exact .of_rail_mixer ⟨rfl, rfl⟩
  · exact .refl s

theorem finishRelease_quiet (newPos : Nat) (s : State) : Quiet s (finishRelease newPos s).2 := by
  have hadvance (q : Nat) : Quiet s (advanceTo q (s.mapPlayer (fun p => { p with hold := 0 }))) :=
    (advanceTo_quiet q _).after ⟨rfl, rfl⟩
  unfold finishRelease
  dsimp only
  split_ifs
  · exact (hadvance _).andThen ⟨rfl, rfl⟩
  · exact hadvance _
  · exact ((hadvance _).trans (handCause_quiet .endOfPass _)).andThen ⟨rfl, rfl⟩
  · exact hadvance _

theorem gatherChord_quiet (s : State) : Quiet s (gatherChord s) := (advanceTo_quiet _ s).andThen ⟨rfl, rfl⟩

theorem holdRecord_quiet (s : State) : Quiet s (holdRecord s) :=
  (advanceTo_quiet _ s).andThen (holdFrame_rail_mixer _ _)

theorem releaseStep_quiet (newPos : Nat) (s : State) : Quiet s (releaseStep newPos s).2 := by
  unfold releaseStep
  split
  · split
    · exact .of_rail_mixer ⟨rfl, rfl⟩
    · exact gatherChord_quiet s
    next r _ =>
      dsimp only
      split
      · exact .of_rail_mixer (by simp [pastRecord])
      · exact (holdRecord_quiet _).after (presentPlayback_rail_mixer r s)
  · exact finishRelease_quiet newPos s

theorem flushStep_quiet (s : State) : Quiet s (flushStep s).2 := by
  unfold flushStep
  split
  · exact .of_rail_mixer (presentFlushItem_rail_mixer _ s)
  · exact flushDecision_quiet s

theorem bodyStep_quiet (began : Bool) (s : State) : Quiet s (bodyStep began s).2 := by
  unfold bodyStep
  split
  · dsimp only
    split
    · exact .refl s
    · exact searchStep_quiet s
  all_goals exact .refl s

theorem playerStep_quiet (w : PlayerWork) (s : State) : Quiet s (playerStep w s).2 := by
  cases w with
  | cue active => simp only [playerStep]; split <;> exact .of_rail_mixer ⟨rfl, rfl⟩
  | settings began => exact .of_rail_mixer ⟨rfl, rfl⟩
  | body began => exact bodyStep_quiet began s
  | cleanup => exact .of_rail_mixer (cleanupStep_rail_mixer s)
  | advance => exact .refl s
  | release newPos => exact releaseStep_quiet newPos s
  | guideOns notes =>
    cases notes with
    | nil => exact .refl s
    | cons n ns => exact .of_rail_mixer (presentGuideOn_rail_mixer n s)
  | flush => exact flushStep_quiet s
  | done => exact .refl s

theorem playerRun_quiet (n : Nat) (w : PlayerWork) (s : State) : Quiet s (playerRun n w s) := by
  induction n generalizing w s with
  | zero => exact .refl s
  | succ n ih =>
    unfold playerRun
    split
    · exact .refl s
    · exact (playerStep_quiet w s).trans (ih _ _)

theorem runFlush_quiet (s : State) : Quiet s (runFlush s) := playerRun_quiet _ .flush s

/-! ## The driver (R92, R97) -/

/-- The driver drives neither way. -/
def Idle (d : Driver) : Prop := d ≠ .driveIn ∧ d ≠ .driveOut

/-- The states in which the driver may drive. -/
def drives : RailState → Bool
  | .engaging | .releasing => true
  | .acoustic | .silent | .unknown | .waiting | .paused | .railFault => false

/-- The evaluation says satisfied exactly where its four conditions hold (R97). -/
def EvalAgrees (e : Interlock) : Prop :=
  e.satisfied = true ↔ e.flightSize = 0 ∧ e.deep = 0 ∧ e.lock = .locked ∧ e.overflow = false

theorem driverGuarded_iff (s : State) : driverGuarded s ↔
    (Idle s.rail.driver ∨ drives s.rail.state = true ∧ s.rail.eval.satisfied = true) ∧ EvalAgrees s.rail.eval := by
  have hdrives : drives s.rail.state = true ↔ s.rail.state = .engaging ∨ s.rail.state = .releasing := by
    cases s.rail.state <;> simp [drives]
  rw [hdrives]
  unfold driverGuarded Idle EvalAgrees
  tauto

/-- In a state that does not drive the driver is idle. -/
theorem idle_of_guarded {s : State} (h : driverGuarded s) (hstate : drives s.rail.state = false) : Idle s.rail.driver := by
  obtain ⟨hidle | ⟨hdrives, _⟩, _⟩ := (driverGuarded_iff s).1 h
  · exact hidle
  · simp [hstate] at hdrives

theorem guarded_of_idle {s : State} (h : Idle s.rail.driver) (heval : EvalAgrees s.rail.eval) : driverGuarded s :=
  (driverGuarded_iff s).2 ⟨.inl h, heval⟩

theorem evalAgrees_of_guarded {s : State} (h : driverGuarded s) : EvalAgrees s.rail.eval :=
  ((driverGuarded_iff s).1 h).2

theorem interlockNow_agrees (s : State) : EvalAgrees (interlockNow s) := by
  simp [EvalAgrees, interlockNow, and_assoc]

theorem releaseMode_idle (m : ReleaseMode) : Idle m.driver := by
  cases m <;> exact ⟨nofun, nofun⟩

theorem faultMode_idle (m : FaultMode) : Idle m.driver := by
  cases m <;> exact ⟨nofun, nofun⟩

/-- Only ENGAGING and RELEASING have a driver mode that drives (R92). -/
theorem driverOf_idle {r : Rail} (h : drives r.state = false) : Idle (driverOf r) := by
  unfold driverOf
  split
  · exact releaseMode_idle _
  · exact releaseMode_idle _
  · exact ⟨nofun, nofun⟩
  · split
    · exact releaseMode_idle _
    · exact releaseMode_idle _
    · exact ⟨nofun, nofun⟩
  next hstate => simp [hstate, drives] at h
  next hstate => simp [hstate, drives] at h
  · exact ⟨nofun, nofun⟩
  · exact faultMode_idle _

/-- A rail moved to a state that does not drive has an idle driver. -/
theorem moveRail_idle {s : State} {r : Rail} (h : drives r.state = false) : Idle (s.moveRail r).rail.driver := by
  change Idle (if s.clock.started then driverOf r else .coast)
  split
  · exact driverOf_idle h
  · exact ⟨nofun, nofun⟩

theorem drives_end (e : RailEnd) : drives e.state = false := by cases e <;> rfl

theorem drives_origin (o : RailOrigin) : drives o.state = false := by cases o <;> rfl

theorem drives_shown (sw : Switches) : drives (railStateOf sw) = false := by
  unfold railStateOf; split <;> rfl

theorem drives_toward (e : RailEnd) : drives e.drive = true := by cases e <;> rfl

/-! ## The bounds under the rail's work (R111) -/

/-- The one operation that replaces the rail leaves the Mixer's bounds and makes the gates agree. -/
theorem setRail_bounds (s : State) (r : Rail) : BoundsKept s (s.setRail r) := ⟨id, id, fun _ => setRail_gate s r⟩

theorem moveRail_bounds (s : State) (r : Rail) : BoundsKept s (s.moveRail r) := setRail_bounds s _

/-- A change of the rail that leaves what its gate depends on. -/
theorem bounds_of_rail {s : State} {r : Rail} (hgate : r.gate = s.rail.gate) (hstate : r.state = s.rail.state)
    (horigin : r.origin = s.rail.origin) (hmonitor : r.monitor = s.rail.monitor) :
    BoundsKept s { s with rail := r } :=
  ⟨id, id, by unfold gateAgrees; rw [hgate, hstate, horigin, hmonitor]; exact id⟩

theorem latch_bounds (sw : Switches) (s : State) : BoundsKept s (latch sw s) := bounds_of_rail rfl rfl rfl rfl

theorem evaluate_bounds (s : State) : BoundsKept s (evaluate s) := bounds_of_rail rfl rfl rfl rfl

theorem resetDriver_bounds (s : State) : BoundsKept s (resetDriver s) := by
  unfold resetDriver; split <;> exact bounds_of_rail rfl rfl rfl rfl

theorem BoundsKept.of_rail_mixer {s t : State} (h : t.rail = s.rail ∧ t.mixer = s.mixer) : BoundsKept s t :=
  (Keeps.of_rail_mixer h).toBoundsKept

theorem raiseNotice_bounds (kind : NoticeKind) (data : List Byte) (s : State) :
    BoundsKept s (raiseNotice kind data s) := .of_rail_mixer (by simp)

theorem enterRailFault_bounds (reason : RailReason) (s : State) : BoundsKept s (enterRailFault reason s) :=
  (BoundsKept.of_rail_mixer (t := s.drawn 1) (by simp)).trans ((raiseNotice_bounds _ _ _).trans (moveRail_bounds _ _))

theorem arrive_bounds (target : RailEnd) (s : State) : BoundsKept s (arrive target s) := by
  have hend := (moveRail_bounds s { s.rail with
    state := target.state, origin := none, target := none, next := none }).trans (raiseNotice_bounds .railDone
      (leBytes 1 0 ++ leBytes 1 target.state.code ++ leBytes 1 s.rail.pauseCount ++
        leBytes 2 (s.rail.startLimit - s.rail.motion) ++ leBytes 3 s.rail.pause) _)
  unfold arrive
  dsimp only
  split
  · exact hend
  · exact hend.trans (moveRail_bounds _ _)

theorem railApply_bounds (ev : RailEvent) (s : State) : BoundsKept s (railApply ev s) := by
  cases ev with
  | conflict => exact enterRailFault_bounds _ s
  | displaced => exact (moveRail_bounds s _).trans (raiseNotice_bounds _ _ _)
  | arrival => exact arrive_bounds _ s
  | start => exact moveRail_bounds s _
  | clearTimeout => exact (moveRail_bounds s _).trans (raiseNotice_bounds _ _ _)
  | waitOn => exact bounds_of_rail rfl rfl rfl rfl
  | pause => exact moveRail_bounds s _
  | stall =>
    exact (bounds_of_rail (r := { s.rail with motion := 0 }) rfl rfl rfl rfl).trans (enterRailFault_bounds .stall _)
  | driveOn => exact bounds_of_rail rfl rfl rfl rfl
  | resume => exact moveRail_bounds s _
  | blocked =>
    exact (bounds_of_rail (r := { s.rail with pause := s.rail.pause + 1 }) rfl rfl rfl rfl).trans
      (enterRailFault_bounds .blocked _)
  | pauseOn => exact bounds_of_rail rfl rfl rfl rfl
  | still => exact (Keeps.refl s).toBoundsKept

/-! ## The driver under the rail's work (R92, R97, R101) -/

/-- The rail does not drive, and the evaluation is the one of `s`. -/
def Stopped (s t : State) : Prop := Idle t.rail.driver ∧ t.rail.eval = s.rail.eval

theorem Stopped.guarded {s t : State} (h : Stopped s t) (heval : EvalAgrees s.rail.eval) : driverGuarded t :=
  guarded_of_idle h.1 (h.2 ▸ heval)

theorem Stopped.notice {s t : State} (h : Stopped s t) (kind : NoticeKind) (data : List Byte) :
    Stopped s (raiseNotice kind data t) := by
  unfold Stopped at *
  rwa [raiseNotice_rail]

theorem enterRailFault_stopped (reason : RailReason) (s : State) : Stopped s (enterRailFault reason s) :=
  ⟨moveRail_idle rfl, by simp [enterRailFault, State.moveRail]⟩

theorem arrive_stopped (target : RailEnd) (s : State) : Stopped s (arrive target s) := by
  have hmoved : Stopped s (s.moveRail { s.rail with
      state := target.state, origin := none, target := none, next := none }) := ⟨moveRail_idle (drives_end target), rfl⟩
  have hend := hmoved.notice .railDone
      (leBytes 1 0 ++ leBytes 1 target.state.code ++ leBytes 1 s.rail.pauseCount ++
        leBytes 2 (s.rail.startLimit - s.rail.motion) ++ leBytes 3 s.rail.pause)
  unfold arrive
  dsimp only
  split
  · exact hend
  · exact ⟨moveRail_idle rfl, hend.2⟩

/-- The events that take the rail out of its motion, or leave it at rest. -/
theorem railApply_stopped {ev : RailEvent}
    (h : ev ∈ [.conflict, .displaced, .arrival, .clearTimeout, .pause, .stall, .blocked]) (s : State) :
    Stopped s (railApply ev s) := by
  cases ev with
  | conflict => exact enterRailFault_stopped _ s
  | displaced => exact Stopped.notice ⟨moveRail_idle (drives_shown _), rfl⟩ _ _
  | arrival => exact arrive_stopped _ s
  | clearTimeout => exact Stopped.notice ⟨moveRail_idle (drives_origin _), rfl⟩ _ _
  | pause => exact ⟨moveRail_idle rfl, rfl⟩
  | stall => exact enterRailFault_stopped _ _
  | blocked => exact enterRailFault_stopped _ _
  | start | waitOn | driveOn | resume | pauseOn | still => simp at h

/-- The events of a drive toward the target come with a satisfied interlock. -/
theorem satisfied_of_railEvent {s : State} (h : railEvent s ∈ [.start, .driveOn, .resume]) :
    (interlockNow s).satisfied = true := by
  by_contra hsat
  rw [Bool.not_eq_true] at hsat
  revert h
  unfold railEvent
  simp only [hsat, Bool.false_eq_true, if_false, Bool.not_false, if_true]
  split
  · split <;> simp
  · split
    · split <;> simp
    · split <;> simp
    · split <;> simp
    · split <;> simp
    · split <;> simp
    · split_ifs <;> simp
    · simp
    · simp

/-- The events that leave driver and state as they are, other than a drive that goes on, fall in states that do not drive. -/
theorem not_drives_of_railEvent {s : State} (h : railEvent s ∈ [.waitOn, .pauseOn, .still]) :
    drives s.rail.state = false := by
  revert h
  unfold railEvent
  dsimp only
  split
  · split
    next hfault => simp [hfault.1, drives]
    · simp
  · split
    next hstate => simp [hstate, drives]
    next hstate => simp [hstate, drives]
    next hstate => simp [hstate, drives]
    · split_ifs <;> simp
    · split_ifs <;> simp
    next hstate => simp [hstate, drives]
    next hstate => simp [hstate, drives]
    next hstate => simp [hstate, drives]

theorem resetDriver_eval (s : State) : (resetDriver s).rail.eval = s.rail.eval := by
  unfold resetDriver; split <;> rfl

/-- Setting the driver again drives nothing that did not drive. -/
theorem resetDriver_idle {s : State} (h : Idle s.rail.driver) : Idle (resetDriver s).rail.driver := by
  have hset (hstate : drives s.rail.state = false) :
      Idle (if s.clock.started then driverOf s.rail else .coast) := by
    split
    · exact driverOf_idle hstate
    · exact ⟨nofun, nofun⟩
  unfold resetDriver
  split
  next hstate => exact hset (by simp [hstate, drives])
  next hstate => exact hset (by simp [hstate, drives])
  next hstate => exact hset (by simp [hstate, drives])
  next hstate => exact hset (by simp [hstate, drives])
  · exact h

theorem Stopped.resetDriver {s t : State} (h : Stopped s t) : Stopped s (Machine.resetDriver t) :=
  ⟨resetDriver_idle h.1, (resetDriver_eval t).trans h.2⟩

theorem resetDriver_guarded {s : State} (h : driverGuarded s) : driverGuarded (resetDriver s) := by
  have heval := evalAgrees_of_guarded h
  by_cases hstate : drives s.rail.state = true
  · have hsame : resetDriver s = s := by
      unfold resetDriver
      split <;> simp_all [drives]
    rwa [hsame]
  · have hidle := idle_of_guarded h (by simpa using hstate)
    exact guarded_of_idle (resetDriver_idle hidle) (resetDriver_eval s ▸ heval)

/-- An event of the tick on freshly evaluated conditions leaves the driver guarded. -/
theorem railApply_guarded {s : State} (hidle : drives s.rail.state = false → Idle s.rail.driver)
    (heval : s.rail.eval = interlockNow s) : driverGuarded (railApply (railEvent s) s) := by
  have hagrees : EvalAgrees s.rail.eval := heval ▸ interlockNow_agrees s
  by_cases hstop : railEvent s ∈ [RailEvent.conflict, .displaced, .arrival, .clearTimeout, .pause, .stall, .blocked]
  · exact (railApply_stopped hstop s).guarded hagrees
  by_cases hdrive : railEvent s ∈ [RailEvent.start, .driveOn, .resume]
  · have hsat : s.rail.eval.satisfied = true := heval ▸ satisfied_of_railEvent hdrive
    cases hev : railEvent s with
    | start => exact (driverGuarded_iff _).2 ⟨.inr ⟨drives_toward _, hsat⟩, hagrees⟩
    | resume => exact (driverGuarded_iff _).2 ⟨.inr ⟨drives_toward _, hsat⟩, hagrees⟩
    | driveOn =>
      refine (driverGuarded_iff _).2 ⟨?_, hagrees⟩
      by_cases hstate : drives s.rail.state = true
      · exact .inr ⟨hstate, hsat⟩
      · exact .inl (hidle (by simpa using hstate))
    | _ => simp [hev] at hdrive
  · cases hev : railEvent s with
    | waitOn | pauseOn | still => exact guarded_of_idle (hidle (not_drives_of_railEvent (by simp [hev]))) hagrees
    | _ => simp [hev] at hstop hdrive

/-- The rail's work at a tick keeps the invariant (R101). -/
theorem railTick_keeps (sw : Switches) (s : State) : Keeps s (railTick sw s) := by
  have hev : railEvent (railPrepare sw s) = railEvent (latch sw s) := by
    unfold railPrepare
    dsimp only
    split <;> rfl
  have hprepare : BoundsKept s (railPrepare sw s) := by
    unfold railPrepare
    dsimp only
    split
    · exact latch_bounds sw s
    · exact (latch_bounds sw s).trans (evaluate_bounds _)
  refine ⟨hprepare.trans ((railApply_bounds _ _).trans (resetDriver_bounds _)), fun h => resetDriver_guarded ?_⟩
  rw [hev]
  unfold railPrepare
  dsimp only
  split
  next hconflict =>
    rw [hconflict]
    exact (railApply_stopped (by simp) (latch sw s)).guarded (evalAgrees_of_guarded h)
  · exact railApply_guarded (s := evaluate (latch sw s)) (idle_of_guarded (s := s) h) rfl

theorem railEventStep_keeps (ev : RailEvent) (sw : Switches) (s : State) : Keeps s (railEventStep ev sw s) := by
  unfold railEventStep
  split
  · exact railTick_keeps sw s
  · exact .refl s

/-- The scan-frame evaluation pauses a drive that it finds unsatisfied (R97, R104). -/
theorem railScanEval_keeps (s : State) : Keeps s (railScanEval s) := by
  unfold railScanEval
  dsimp only
  split
  · refine ⟨(evaluate_bounds s).trans (moveRail_bounds _ _), fun _ => ?_⟩
    exact guarded_of_idle (moveRail_idle rfl) (interlockNow_agrees s)
  next hpause =>
    refine ⟨evaluate_bounds s, fun h => (driverGuarded_iff _).2 ⟨?_, interlockNow_agrees s⟩⟩
    by_cases hstate : drives s.rail.state = true
    · have hdriving : s.rail.state = .engaging ∨ s.rail.state = .releasing := by
        revert hstate
        cases s.rail.state <;> simp [drives]
      exact .inr ⟨hstate, by simpa using fun hsat => hpause ⟨hdriving, hsat⟩⟩
    · exact .inl (idle_of_guarded (s := s) h (by simpa using hstate))

/-- The evaluation of a tick that comes after other work finds a rail that does not drive. -/
theorem evaluate_keeps {s : State} (h : Idle s.rail.driver) : Keeps s (evaluate s) :=
  ⟨evaluate_bounds s, fun _ => guarded_of_idle h (interlockNow_agrees s)⟩

/-- What comes of the rail's tick work before any evaluation stops the rail (R101). -/
theorem railEarly_stopped {ev : RailEvent} {sw : Switches} {s : State} (h : railEarlyEvent sw s = some ev) :
    Stopped s (railEarly ev sw s) := by
  have hev : ev ∈ [RailEvent.conflict, .displaced, .arrival, .clearTimeout, .pause, .stall, .blocked] := by
    revert h
    unfold railEarlyEvent
    split
    · rintro ⟨⟩; simp
    · rintro ⟨⟩; simp
    · split
      · exact nofun
      · rintro ⟨⟩; simp
    · exact nofun
  exact (railApply_stopped hev (latch sw s)).resetDriver

theorem railEarly_keeps {ev : RailEvent} {sw : Switches} {s : State} (h : railEarlyEvent sw s = some ev) :
    Keeps s (railEarly ev sw s) :=
  ⟨(latch_bounds sw s).trans ((railApply_bounds ev _).trans (resetDriver_bounds _)),
    fun hs => (railEarly_stopped h).guarded (evalAgrees_of_guarded hs)⟩

/-- RAIL_MOVE begins a wait, cancels one, or changes targets; none of these drives (R98 to R100). -/
theorem moveTo_keeps (target : RailEnd) (s : State) : Keeps s (moveTo target s).1 := by
  have hwait (o : RailOrigin) : Keeps s (enterWaiting o target s) :=
    ⟨moveRail_bounds s _, fun h => guarded_of_idle (moveRail_idle rfl) (evalAgrees_of_guarded (s := s) h)⟩
  have hsame {r : Rail} (hstate : r.state = s.rail.state) (hdriver : r.driver = s.rail.driver)
      (heval : r.eval = s.rail.eval) : Keeps s (s.setRail r) :=
    ⟨setRail_bounds s r, by unfold driverGuarded; simp only [State.setRail_rail, hstate, hdriver, heval]; exact id⟩
  unfold moveTo
  split
  · split
    · exact .refl s
    · exact hwait _
  · split
    · exact .refl s
    · exact hwait _
  · exact hwait _
  · exact hwait _
  next hstate =>
    split_ifs
    · refine ⟨(setRail_bounds s _).trans (raiseNotice_bounds _ _ _), fun h => ?_⟩
      have hset : Stopped s (s.setRail { s.rail with
          state := target.state, origin := none, target := none, clearance := 0 }) :=
        ⟨idle_of_guarded (s := s) h (by simp [hstate, drives]), rfl⟩
      exact (hset.notice _ _).guarded (evalAgrees_of_guarded h)
    · exact .refl s
    · exact hsame rfl rfl rfl
  all_goals
    split
    · exact .refl s
    · exact hsame rfl rfl rfl

/-! ## The messages (R171) -/

theorem appendReply_keeps {s t : State} (h : Keeps s t) (code tag : Byte) (r : MsgResult) :
    Keeps s (appendReply code tag r t) := h.trans (.of_rail_mixer ⟨rfl, rfl⟩)

theorem completeMessage_keeps {op : MsgOp} {s : State} (h : Keeps s (op s).1) (code tag : Byte) :
    Keeps s (completeMessage code tag op s) := by
  unfold completeMessage
  split_ifs
  · exact .refl s
  · exact .of_rail_mixer ⟨rfl, rfl⟩
  · exact appendReply_keeps h code tag _

theorem nvRestoreOp_keeps (b : List Byte) (s : State) : Keeps s (nvRestoreOp b s).1 := by
  unfold nvRestoreOp
  split_ifs
  · exact .refl s
  · exact .refl s
  · exact .refl s
  · exact ⟨⟨id, id, id⟩, id⟩

theorem railMoveOp_keeps (b : List Byte) (s : State) : Keeps s (railMoveOp b s).1 := by
  unfold railMoveOp
  split
  · exact .refl s
  · split
    · exact .refl s
    · exact moveTo_keeps _ s

theorem railConfigOp_keeps (b : List Byte) (s : State) : Keeps s (railConfigOp b s).1 := by
  unfold railConfigOp
  split_ifs
  · exact .refl s
  · exact .refl s
  · exact ⟨⟨id, id, id⟩, id⟩
  · exact .refl s

theorem railStatusOp_keeps (b : List Byte) (s : State) : Keeps s (railStatusOp b s).1 := by
  unfold railStatusOp; split <;> exact .refl s

theorem railMonitorOp_keeps (b : List Byte) (s : State) : Keeps s (railMonitorOp b s).1 := by
  unfold railMonitorOp
  split_ifs
  · exact .refl s
  · exact .refl s
  · exact ⟨setRail_bounds s _, id⟩
  · exact .refl s

theorem mixModeOp_keeps (b : List Byte) (s : State) : Keeps s (mixModeOp b s).1 := by
  unfold mixModeOp
  split_ifs
  · exact .refl s
  · split
    · exact .refl s
    · exact Quiet.keeps (.of_mixer rfl rfl rfl rfl rfl rfl)
  · exact .refl s

/-- The target of a MIX_BALANCE is at most 32 times 1024 (R156). -/
theorem mixBalanceOp_keeps (b : List Byte) (s : State) : Keeps s (mixBalanceOp b s).1 := by
  unfold mixBalanceOp
  split_ifs
  · exact .refl s
  · split
    · exact .refl s
    next trigger _ =>
      refine Quiet.keeps ⟨rfl, rfl, fun ⟨hbal, hfade, _⟩ => ⟨hbal, hfade, ?_⟩, id⟩
      rintro p ⟨⟩
      have hclamp := (clampNat_bounds (lo := 0) (hi := 32) (n := u8At b 0) (by omega)).2
      change clampNat 0 32 (u8At b 0) * 1024 ≤ 32768
      omega
  · exact .refl s

theorem gainTableWriteOp_keeps (b : List Byte) (s : State) : Keeps s (gainTableWriteOp b s).1 := by
  unfold gainTableWriteOp
  dsimp only
  split_ifs
  · exact .refl s
  · exact .refl s
  all_goals exact Quiet.keeps (.of_mixer rfl rfl rfl rfl rfl rfl)

theorem gainTableReadOp_keeps (b : List Byte) (s : State) : Keeps s (gainTableReadOp b s).1 := by
  unfold gainTableReadOp; split_ifs <;> exact .refl s

theorem volumeSetOp_keeps (b : List Byte) (s : State) : Keeps s (volumeSetOp b s).1 := by
  unfold volumeSetOp
  split_ifs
  · exact .refl s
  · exact Quiet.keeps (.of_mixer rfl rfl rfl rfl rfl rfl)
  · exact .refl s

theorem mixStatusOp_keeps (b : List Byte) (s : State) : Keeps s (mixStatusOp b s).1 := by
  unfold mixStatusOp
  split_ifs
  · exact .refl s
  · exact .refl s
  · exact Quiet.keeps (.of_mixer rfl rfl rfl rfl rfl rfl)
  · exact .refl s

theorem stopNow_quiet (s : State) : Quiet s (stopNow s) := by
  unfold stopNow
  split
  · exact .of_rail_mixer (enterStopped_rail_mixer _ s)
  · exact .of_rail_mixer (enterStopped_rail_mixer _ s)
  · exact (runFlush_quiet _).after ⟨rfl, rfl⟩
  · exact (runFlush_quiet _).after ⟨rfl, rfl⟩
  · exact .of_rail_mixer ⟨rfl, rfl⟩
  · exact .refl s

theorem playStopOp_keeps (b : List Byte) (s : State) : Keeps s (playStopOp b s).1 := by
  unfold playStopOp
  split_ifs
  · exact .refl s
  · exact .refl s
  · exact .refl s
  · exact (stopNow_quiet s).keeps
  · exact .of_rail_mixer ⟨rfl, rfl⟩

theorem locateNow_quiet {bar : Nat} {s t : State} (h : locateNow bar s = some t) : Quiet s t := by
  unfold locateNow at h
  split at h
  · cases h; exact .of_rail_mixer ⟨rfl, rfl⟩
  · cases h; exact .of_rail_mixer ⟨rfl, rfl⟩
  · cases h; exact (runFlush_quiet _).after ⟨rfl, rfl⟩
  · cases h; exact (runFlush_quiet _).after ⟨rfl, rfl⟩
  · cases h; exact .of_rail_mixer ⟨rfl, rfl⟩
  · split at h
    · contradiction
    · cases h; exact .of_rail_mixer ⟨rfl, rfl⟩

theorem playLocateOp_keeps (b : List Byte) (s : State) : Keeps s (playLocateOp b s).1 := by
  unfold playLocateOp
  split_ifs
  · exact .refl s
  · exact .refl s
  · split
    · exact .refl s
    next hlocate => exact (locateNow_quiet hlocate).keeps

theorem metronomeOp_keeps (b : List Byte) (s : State) : Keeps s (metronomeOp b s).1 := by
  unfold metronomeOp
  split_ifs
  · exact .refl s
  · exact .refl s
  · exact Quiet.keeps (.of_mixer rfl rfl rfl rfl rfl rfl)
  · exact .refl s

/-- Every message's operation keeps the invariant. -/
theorem messageOp_keeps {code : Nat} {op : List Byte → MsgOp} (h : messageOp code = some op) (b : List Byte) (s : State) :
    Keeps s (op b s).1 := by
  unfold messageOp at h
  split at h
  all_goals cases h
  · exact .of_rail_mixer (keyCalWriteOp_rail_mixer b s)
  · exact .of_rail_mixer (keyCalReadOp_rail_mixer b s)
  · exact .of_rail_mixer (keyStateReadOp_rail_mixer b s)
  · exact .of_rail_mixer (curveWriteOp_rail_mixer b s)
  · exact .of_rail_mixer (curveReadOp_rail_mixer b s)
  · exact .of_rail_mixer (trackConfigOp_rail_mixer b s)
  · exact .of_rail_mixer (pedalCalWriteOp_rail_mixer b s)
  · exact .of_rail_mixer (pedalCalReadOp_rail_mixer b s)
  · exact .of_rail_mixer (calibrateRestOp_rail_mixer b s)
  · exact .of_rail_mixer (faultListReadOp_rail_mixer b s)
  · exact .of_rail_mixer (faultClearOp_rail_mixer b s)
  · exact .of_rail_mixer (nvSaveOp_rail_mixer b s)
  · exact nvRestoreOp_keeps b s
  · exact railMoveOp_keeps b s
  · exact railConfigOp_keeps b s
  · exact railStatusOp_keeps b s
  · exact railMonitorOp_keeps b s
  · exact mixModeOp_keeps b s
  · exact mixBalanceOp_keeps b s
  · exact gainTableWriteOp_keeps b s
  · exact gainTableReadOp_keeps b s
  · exact volumeSetOp_keeps b s
  · exact mixStatusOp_keeps b s
  · exact .of_rail_mixer (takeHeaderWriteOp_rail_mixer b s)
  · exact .of_rail_mixer (takeWriteOp_rail_mixer b s)
  · exact .of_rail_mixer (captureReadOp_rail_mixer b s)
  · exact .of_rail_mixer (recordStartOp_rail_mixer b s)
  · exact .of_rail_mixer (recordStopOp_rail_mixer b s)
  · exact .of_rail_mixer (promoteOp_rail_mixer b s)
  · exact .of_rail_mixer (sectionWriteOp_rail_mixer b s)
  · exact .of_rail_mixer (sectionApplyOp_rail_mixer b s)
  · exact .of_rail_mixer (playStartOp_rail_mixer b s)
  · exact playStopOp_keeps b s
  · exact playLocateOp_keeps b s
  · exact .of_rail_mixer (playRateOp_rail_mixer b s)
  · exact .of_rail_mixer (partModeOp_rail_mixer b s)
  · exact .of_rail_mixer (followConfigOp_rail_mixer b s)
  · exact metronomeOp_keeps b s
  · exact .of_rail_mixer (statusOp_rail_mixer b s)
  · exact .of_rail_mixer (identifyOp_rail_mixer b s)
  · exact .of_rail_mixer (resetOp_rail_mixer b s)

theorem dispatch_keeps (code tag : Byte) (body : List Byte) (s : State) : Keeps s (dispatch code tag body s) := by
  refine completeMessage_keeps ?_ code tag
  cases hop : messageOp code.toNat with
  | none => exact .refl s
  | some op => exact messageOp_keeps hop body s

/-- A message command is what the dispatch of its code does. -/
theorem exec_eq_dispatch {i : Instr} {code tag : Byte} {body : List Byte} (h : messageParts i = some (code, tag, body))
    (s : State) : exec i s = .next (dispatch code tag body s) := by
  cases i <;> cases h <;> rfl

/-! ## Scan frames and downstream frames -/

theorem midStep_keeps (mid : Option MidMessage) (n : Nat) (s : State) : Keeps s (midStep mid n s) := by
  unfold midStep
  split
  · exact .refl s
  · split_ifs
    · exact dispatch_keeps _ _ _ s
    · unfold midCurve curvePart
      split_ifs <;> exact .of_rail_mixer ⟨rfl, rfl⟩
    · exact .refl s

/-- The samples of a frame with a message among them (R33, R39). -/
theorem keySamples_keeps (mid : Option MidMessage) (words : List ScanWord) (s : State) :
    Keeps s (keySamples (midStep mid) words s) := by
  have hkeys : Keeps s (allKeys.foldl (fun t k => keySample k (sampleAt words k.val) (midStep mid k.val t)) s) :=
    List.foldlRecOn (motive := Keeps s) allKeys _ (.refl s) fun t ht k _ =>
      ht.trans ((midStep_keeps mid k.val t).trans (.of_rail_mixer (keySample_rail_mixer k _ _)))
  exact hkeys.trans (midStep_keeps mid 88 _)

theorem takeSamples_keeps (words : List ScanWord) (mid : Option MidMessage) (s : State) :
    Keeps s (takeSamples words mid s) := by
  have hframe : Keeps s (s.mapScan (fun r => { r with lastTaken := some s.clock.frame })) := .of_rail_mixer ⟨rfl, rfl⟩
  exact ((hframe.trans (keySamples_keeps mid words _)).trans (.of_rail_mixer (by simp))).trans (railScanEval_keeps _)

theorem settleScanGood_keeps (words : List ScanWord) (mid : Option MidMessage) (s : State) :
    Keeps s (settleScanGood words mid s) := by
  unfold settleScanGood
  split
  · exact (takeSamples_keeps words mid _).after ⟨rfl, rfl⟩
  · split
    · exact (takeSamples_keeps words mid _).after (by simp)
    · exact .of_rail_mixer ⟨rfl, rfl⟩

theorem receiveScan_keeps (words : List ScanWord) (mid : Option MidMessage) (s : State) :
    Keeps s (receiveScan words mid s) := by
  unfold receiveScan
  split
  · exact .refl s
  · exact .of_rail_mixer ⟨rfl, rfl⟩
  · exact .of_rail_mixer ⟨rfl, rfl⟩
  · split
    · exact .of_rail_mixer (settleScanBad_rail_mixer s)
    · exact .of_rail_mixer ⟨rfl, rfl⟩
    · exact settleScanGood_keeps words mid s

theorem finishMessage_keeps (n : Nat) (bytes : List Byte) (s : State) : Keeps s (finishMessage n bytes s) := by
  unfold finishMessage
  dsimp only
  split
  · exact (dispatch_keeps _ _ _ _).after ⟨rfl, rfl⟩
  · exact .of_rail_mixer (by simp)

theorem takeSegment_keeps (segment : List Byte) (s : State) : Keeps s (takeSegment segment s) := by
  have hbegun : Keeps s (match s.msg.assembler with
      | .assembling _ bytes => refuseMessage bytes .framing s
      | .idle | .discarding => s) := by
    split
    · exact .of_rail_mixer (refuseMessage_rail_mixer _ _ s)
    all_goals exact .refl s
  unfold takeSegment beginMessage continueMessage
  dsimp only
  split
  · exact .refl s
  · split
    · split
      · exact hbegun.trans (finishMessage_keeps _ _ _)
      · exact hbegun.trans (.of_rail_mixer ⟨rfl, rfl⟩)
    · split
      · exact .of_rail_mixer ⟨rfl, rfl⟩
      · exact .refl s
      · split_ifs
        · exact finishMessage_keeps _ _ s
        · exact .of_rail_mixer (by simp)
        · exact .of_rail_mixer ⟨rfl, rfl⟩

theorem acceptDownstream_keeps (frame : List Byte) (s : State) : Keeps s (acceptDownstream frame s) := by
  have hheard : Keeps s ((settleLinkGood s).mapMsg (fun m => { m with audio := some (toneOf frame) })) :=
    .of_rail_mixer (by simp)
  unfold acceptDownstream
  dsimp only
  split
  · exact hheard.trans (takeSegment_keeps _ _)
  · exact hheard

theorem receiveDownstream_keeps (frame : List Byte) (s : State) : Keeps s (receiveDownstream frame s) := by
  unfold receiveDownstream
  split
  · exact .refl s
  · exact .of_rail_mixer ⟨rfl, rfl⟩
  · exact .of_rail_mixer ⟨rfl, rfl⟩
  · split
    · exact acceptDownstream_keeps frame s
    · exact .of_rail_mixer ⟨rfl, rfl⟩

/-! ## Resets (R176, R177) -/

theorem pinReset_keeps (sw : Switches) (s : State) : Keeps s (pinReset sw s) where
  balance _ := ⟨show 16384 ≤ 32768 by decide, nofun, nofun⟩
  samples _ := by
    intro p hp
    rw [List.eq_of_mem_replicate hp]
    unfold sampleOk
    decide
  gate _ := ⟨rfl, rfl⟩
  driver _ := guarded_of_idle ⟨nofun, nofun⟩ (show EvalAgrees resetInterlock by simp [EvalAgrees, resetInterlock])

theorem softReset_keeps (sw : Switches) (s : State) : Keeps s (softReset sw s) :=
  (pinReset_keeps sw s).trans (.of_rail_mixer ⟨rfl, rfl⟩)

/-! ## The frame tick (R166) -/

/-- The works of the Rail Controller. -/
def isRailWork : Work → Bool
  | .railSwitches _ | .rail _ | .railEvaluate => true
  | _ => false

/-- A work of another block is quiet. -/
theorem runWork_quiet {w : Work} (h : isRailWork w = false) (s : State) : Quiet s (runWork w s).2 := by
  cases w with
  | railSwitches | rail | railEvaluate => simp [isRailWork] at h
  | scan => exact .of_rail_mixer (scanTick_rail_mixer s)
  | scanLost => exact .of_rail_mixer (by simp [runWork, raiseScanLost])
  | link => exact .of_rail_mixer (linkTick_rail_mixer s)
  | keyTimers => exact .of_rail_mixer (flightTick_rail_mixer s)
  | owed k => exact .of_rail_mixer (retryOwed_rail_mixer k s)
  | drain => exact .of_rail_mixer ⟨rfl, rfl⟩
  | pedalTimers => exact .of_rail_mixer ⟨rfl, rfl⟩
  | pedal p => exact .of_rail_mixer (considerPedal_rail_mixer p s)
  | store done readBackMatches => exact .of_rail_mixer (storeTick_rail_mixer done readBackMatches s)
  | calJob => exact .of_rail_mixer (calJobTick_rail_mixer s)
  | recorderCue cue => exact .of_rail_mixer (recorderCue_rail_mixer cue s)
  | spacers => exact .of_rail_mixer (recorderSpacers_rail_mixer s)
  | player p => exact playerStep_quiet p s
  | tone => exact .of_mixer rfl rfl rfl rfl rfl rfl
  | mixMode => exact mixApplyMode_quiet s
  | mixTrigger => exact handCause_quiet .step3 s
  | fade => exact fadeStep_quiet s
  | gateGain => exact .of_mixer rfl rfl rfl rfl rfl rfl
  | volume => exact .of_mixer rfl rfl rfl rfl rfl rfl
  | weights => exact .of_mixer rfl rfl rfl rfl rfl rfl
  | samples => exact formSamples_quiet s
  | upstream => exact .of_rail_mixer (sendUpstream_rail_mixer s)

/-- A work of another block makes way for no work of the rail. -/
theorem runWork_next {w : Work} (h : isRailWork w = false) (s : State) :
    ∀ v ∈ (runWork w s).1, isRailWork v = false := by
  cases w with
  | railSwitches | rail | railEvaluate => simp [isRailWork] at h
  | scan =>
    simp only [runWork]
    split <;> simp [isRailWork]
  | player p =>
    simp only [runWork]
    split <;> simp [isRailWork]
  | _ => exact nofun

/-- The works that remain hold at most one of the rail, and a late evaluation only for a rail that does not drive. -/
def RailOnce (ws : List Work) (s : State) : Prop :=
  ws.countP isRailWork ≤ 1 ∧ (Work.railEvaluate ∈ ws → Idle s.rail.driver)

theorem RailOnce.perm {ws vs : List Work} {s : State} (hperm : ws.Perm vs) (h : RailOnce ws s) : RailOnce vs s :=
  ⟨hperm.countP_eq isRailWork ▸ h.1, fun hmem => h.2 (hperm.mem_iff.2 hmem)⟩

/-- The threads' works are the one at the head of a thread and the others; done, it makes way for the one that takes its
place. -/
theorem advanceThread_perm {ts : List Thread} {i : Nat} {w : Work} {t : Thread} (h : ts.getD i [] = w :: t) :
    ∃ left, ts.flatten.Perm (w :: left) ∧
      ∀ next : Option Work, (ts.set i (advanceThread next (w :: t))).flatten.Perm (next.toList ++ left) := by
  have hi : i < ts.length := by
    by_contra hout
    rw [List.getD_eq_default _ _ (Nat.le_of_not_lt hout)] at h
    contradiction
  have hthread : ts[i] = w :: t := by rwa [List.getD_eq_getElem _ _ hi] at h
  refine ⟨t ++ ((ts.take i).flatten ++ (ts.drop (i + 1)).flatten), ?_, fun next => ?_⟩
  · conv_lhs => rw [← List.take_append_drop i ts, List.drop_eq_getElem_cons hi, hthread]
    simpa using (List.perm_append_comm_assoc (ts.take i).flatten (w :: t) (ts.drop (i + 1)).flatten)
  · have hadvance : advanceThread next (w :: t) = next.toList ++ t := by cases next <;> rfl
    rw [List.set_eq_take_append_cons_drop, if_pos hi, hadvance]
    simpa using (List.perm_append_comm_assoc (ts.take i).flatten (next.toList ++ t) (ts.drop (i + 1)).flatten)

/-- One work done: what remains of the rail's works stays at most one, and the invariant is kept. -/
theorem runWork_keeps {w : Work} {left : List Work} {s : State} (h : RailOnce (w :: left) s) :
    Keeps s (runWork w s).2 ∧ RailOnce ((runWork w s).1.toList ++ left) (runWork w s).2 := by
  obtain ⟨honce, hidle⟩ := h
  by_cases hw : isRailWork w = true
  · have hleft : ∀ v ∈ left, isRailWork v = false := by
      rw [List.countP_cons_of_pos hw] at honce
      simpa using List.countP_eq_zero.1 (by omega : left.countP isRailWork = 0)
    have hlate : Work.railEvaluate ∉ left := fun hmem => by simpa [isRailWork] using hleft _ hmem
    have hnone {t : State} : RailOnce left t := ⟨by rw [List.countP_eq_zero.2 (by simpa using hleft)]; omega,
      fun hmem => absurd hmem hlate⟩
    have hone {v : Work} {t : State} (hv : v = .railEvaluate → Idle t.rail.driver) : RailOnce (v :: left) t := by
      refine ⟨?_, fun hmem => ?_⟩
      · rw [List.countP_cons, List.countP_eq_zero.2 (by simpa using hleft)]
        split <;> omega
      · rcases List.mem_cons.1 hmem with hv' | hmem
        · exact hv hv'.symm
        · exact absurd hmem hlate
    cases w with
    | railSwitches sw =>
      unfold runWork
      dsimp only
      cases hev : railEarlyEvent sw s with
      | none => exact ⟨.refl s, hone nofun⟩
      | some ev =>
        refine ⟨railEarly_keeps hev, ?_⟩
        dsimp only
        split
        · exact hnone
        · exact hone fun _ => (railEarly_stopped hev).1
    | rail sw => exact ⟨railTick_keeps sw s, hnone⟩
    | railEvaluate => exact ⟨evaluate_keeps (hidle List.mem_cons_self), hnone⟩
    | _ => simp [isRailWork] at hw
  · rw [Bool.not_eq_true] at hw
    have hquiet := runWork_quiet hw s
    have hnext : ∀ v ∈ (runWork w s).1.toList, isRailWork v = false := by
      simpa using runWork_next hw s
    refine ⟨hquiet.keeps, ?_, fun hmem => ?_⟩
    · rw [List.countP_cons_of_neg (by simp [hw])] at honce
      rwa [List.countP_append, List.countP_eq_zero.2 (by simpa using hnext), Nat.zero_add]
    · rw [hquiet.rail]
      rcases List.mem_append.1 hmem with hmem | hmem
      · simpa [isRailWork] using hnext _ hmem
      · exact hidle (List.mem_cons_of_mem _ hmem)

theorem runThreads_keeps (n : Nat) (choices : List Nat) {ts : List Thread} {s : State} (h : RailOnce ts.flatten s) :
    Keeps s (runThreads n choices ts s) := by
  induction n generalizing choices ts s with
  | zero => exact .refl s
  | succ n ih =>
    unfold runThreads
    dsimp only
    split
    · exact .refl s
    next w t hthread =>
      obtain ⟨left, hbefore, hafter⟩ := advanceThread_perm hthread
      obtain ⟨hkeeps, honce⟩ := runWork_keeps (h.perm hbefore)
      rw [hthread]
      exact hkeeps.trans (ih _ (honce.perm (hafter _).symm))

/-- The works of a tick hold one of the rail, and no late evaluation yet. -/
theorem threadsOf_railOnce (inp : TickInputs) (s t : State) : RailOnce (threadsOf inp s).flatten t := by
  refine ⟨?_, ?_⟩
  · simp [threadsOf, isRailWork, List.countP_cons, List.countP_map, Function.comp_def]
  · simp [threadsOf]

theorem execFrameTick_keeps (inp : TickInputs) (s : State) :
    Keeps s (if s.msg.resetDue then softReset inp.sw s else runTick inp s) := by
  split
  · exact softReset_keeps inp.sw s
  · have hticked : Keeps s s.ticked := .of_rail_mixer ⟨rfl, rfl⟩
    exact hticked.trans (runThreads_keeps _ _ (threadsOf_railOnce inp _ _))

/-! ## Every command -/

/-- A command that does its work where it is due. -/
theorem Keeps.ite {c : Prop} [Decidable c] {s t : State} (h : Keeps s t) : Keeps s (if c then t else s) := by
  split
  · exact h
  · exact .refl s

/-- Every command keeps the invariant: the messages by the dispatch, the events one by one. -/
theorem exec_keeps {i : Instr} {s t : State} (h : exec i s = .next t) : Keeps s t := by
  cases hparts : messageParts i with
  | some parts =>
    obtain ⟨code, tag, body⟩ := parts
    rw [exec_eq_dispatch hparts] at h
    cases h
    exact dispatch_keeps code tag body s
  | none =>
    cases i with
    | pinReset sw => cases h; exact pinReset_keeps sw s
    | softReset sw => cases h; exact Keeps.ite (softReset_keeps sw s)
    | frameTick inp => cases h; exact execFrameTick_keeps inp s
    | scanFrame arrival => cases h; exact receiveScan_keeps _ _ s
    | downstreamFrame bytes => cases h; exact receiveDownstream_keeps bytes s
    | scanLost => cases h; exact Keeps.ite (.of_rail_mixer (settleScanBad_rail_mixer s))
    | scanLocked arrival => cases h; exact Keeps.ite (settleScanGood_keeps _ _ s)
    | linkDown => cases h; exact Keeps.ite (.of_rail_mixer ⟨rfl, rfl⟩)
    | linkRestored bytes => cases h; exact Keeps.ite (acceptDownstream_keeps bytes s)
    | keyFault k raw =>
      cases h
      exact Keeps.ite ((railScanEval_keeps _).after (keySample_rail_mixer k raw s))
    | restStep k raw => cases h; exact Keeps.ite (.of_rail_mixer ⟨rfl, rfl⟩)
    | calKeyComplete k raw => cases h; exact Keeps.ite (.of_rail_mixer ⟨rfl, rfl⟩)
    | calJobTimeout => cases h; exact Keeps.ite (.of_rail_mixer (calJobTick_rail_mixer s))
    | nvDone readBackMatches => cases h; exact Keeps.ite (.of_rail_mixer (completeSave_rail_mixer _ s))
    | flightTimerExpiry k => cases h; exact Keeps.ite (.of_rail_mixer ⟨rfl, rfl⟩)
    | pedalIntervalExpiry p => cases h; exact Keeps.ite (.of_rail_mixer (considerPedal_rail_mixer p _))
    | noteOffRetry =>
      have ht : retryAllOwed s = t := Host.Outcome.next.inj h
      exact ht ▸ .of_rail_mixer (retryAllOwed_rail_mixer s)
    | pedalEventRetry p => cases h; exact Keeps.ite (.of_rail_mixer (attemptPedal_rail_mixer p s))
    | clearTimeout sw => cases h; exact railEventStep_keeps _ sw s
    | railStart sw =>
      cases h
      split
      · exact railTick_keeps sw s
      · exact railEventStep_keeps _ sw s
    | railResume sw => cases h; exact railEventStep_keeps _ sw s
    | railBlocked sw => cases h; exact railEventStep_keeps _ sw s
    | railStall sw => cases h; exact railEventStep_keeps _ sw s
    | railArrival sw => cases h; exact railEventStep_keeps _ sw s
    | railDisplaced sw => cases h; exact railEventStep_keeps _ sw s
    | switchConflict => cases h; exact railEventStep_keeps _ _ s
    | recordCueStart => cases h; exact .of_rail_mixer (recorderCue_rail_mixer true s)
    | recordFirstKeyStart note => cases h; exact Keeps.ite (.of_rail_mixer (captureObserve_rail_mixer _ s))
    | playCueStart => cases h; exact (playerStep_quiet _ s).keeps
    | locateEnd => cases h; exact Keeps.ite (searchStep_quiet s).keeps
    | endOfPass => cases h; exact Keeps.ite ((finishRelease_quiet _ s).trans (runFlush_quiet _)).keeps
    | endOfTake => cases h; exact Keeps.ite ((finishRelease_quiet _ s).trans (runFlush_quiet _)).keeps
    | flushEnd => cases h; exact Keeps.ite (runFlush_quiet s).keeps
    | heldRecordRetry => cases h; exact Keeps.ite (playerRun_quiet _ _ s).keeps
    | partCleanup => cases h; exact Keeps.ite (.of_rail_mixer (runCleanup_rail_mixer _ s))
    | lag => cases h; exact Keeps.ite (playerRun_quiet _ _ s).keeps
    | balanceTrigger cause => cases h; exact (handCause_quiet cause s).keeps
    | fadeEnd =>
      cases h
      split
      · exact Keeps.ite (fadeStep_quiet s).keeps
      · exact .refl s
    | clickEnd =>
      cases h
      split
      · exact Keeps.ite (Quiet.keeps (.of_mixer rfl rfl rfl rfl rfl rfl))
      · exact .refl s
    | _ => cases hparts

/-- A step of the machine is a command on the state with the queue's rest, or idles. -/
theorem step_keeps {s t : State} (h : step s = .next t) : Keeps s t := by
  unfold step at h
  split at h
  · cases h
    exact .refl s
  · exact (exec_keeps h).after ⟨rfl, rfl⟩

/-- Settles O60: every command keeps the Mixer's bounds, the gates and the guard of the driver. -/
theorem everyStepKeepsTheMixerInBounds : Obligations.EveryStepKeepsTheMixerInBounds :=
  ⟨fun _ _ hbalance hsamples hgate hstep =>
    have hkeeps := step_keeps hstep
    ⟨hkeeps.balance hbalance, hkeeps.samples hsamples, hkeeps.gate hgate⟩,
    fun _ _ hdriver hstep => (step_keeps hstep).driver hdriver⟩

end Sys2Proof.Proofs.MixerBounds

/-! PROOFS. Chapter 06: the Rail Controller (R92 to R113). First the gate and the driver of each rail state in the statements'
own words, then the evaluation of a tick and the event it comes to, then one equation per piece of a move's life; the messages
RAIL_MOVE, RAIL_CONFIG and RAIL_MONITOR; and the statements. -/

namespace Sys2Proof.Proofs.RailController

open Sys2Proof.Machine
open Sys2Proof.Claims (liveGate releaseDriver clear examined withRail waiting doneData arrived endSwitch driving faulted
  latchByte)
open Sys2Proof.Proofs.StrikeVelocity (completed u16_of_bytes clampNat_ne_iff)

/-! ## The live gate (R111) -/

/-- The gate stands closed at the acoustic end, or waiting to leave it, with the monitor flag clear. -/
theorem gateOf_eq_liveGate (state : RailState) (origin : Option RailOrigin) (monitor : Bool) :
    gateOf state origin monitor =
      liveGate monitor (decide (state = .acoustic ∨ (state = .waiting ∧ origin = some .acoustic))) := by
  unfold gateOf liveGate
  split_ifs <;> simp_all

theorem gateOf_end (e : RailEnd) (origin : Option RailOrigin) (monitor : Bool) :
    gateOf e.state origin monitor = liveGate monitor (decide (e = .acoustic)) := by
  rw [gateOf_eq_liveGate]
  cases e <;> simp [RailEnd.state]

theorem gateOf_shown (o : RailOrigin) (origin : Option RailOrigin) (monitor : Bool) :
    gateOf o.state origin monitor = liveGate monitor (decide (o = .acoustic)) := by
  rw [gateOf_eq_liveGate]
  cases o <;> simp [RailOrigin.state]

theorem gateOf_waiting (o : RailOrigin) (monitor : Bool) :
    gateOf .waiting (some o) monitor = liveGate monitor (decide (o = .acoustic)) := by
  rw [gateOf_eq_liveGate]
  simp

/-- Away from the acoustic end the gate stands open whatever the flag. -/
theorem liveGate_false (monitor : Bool) : liveGate monitor false = .opened := by cases monitor <;> rfl

theorem gateOf_away {state : RailState} (hend : state ≠ .acoustic) (hwait : state ≠ .waiting) (origin : Option RailOrigin)
    (monitor : Bool) : gateOf state origin monitor = .opened := by
  rw [gateOf_eq_liveGate]
  simp [hend, hwait, liveGate_false]

/-! ## The driver (R92) -/

theorem driverOf_end {r : Rail} {e : RailEnd} (h : r.state = e.state) : driverOf r = releaseDriver r.config e.origin := by
  cases e <;> simp [driverOf, h, RailEnd.state, RailEnd.origin, releaseDriver]

theorem driverOf_shown {r : Rail} {o : RailOrigin} (h : r.state = o.state) : driverOf r = releaseDriver r.config o := by
  cases o <;> simp [driverOf, h, RailOrigin.state, releaseDriver]

theorem driverOf_waiting {r : Rail} {o : RailOrigin} (h : r.state = .waiting) (ho : r.origin = some o) :
    driverOf r = releaseDriver r.config o := by
  cases o <;> simp [driverOf, h, ho, releaseDriver]

theorem driverOf_railFault {r : Rail} (h : r.state = .railFault) :
    driverOf r = match r.config.faultMode with | .coast => .coast | .brake => .brake := by
  simp only [driverOf, h]
  rfl

/-! ## The rail replaced -/

theorem setRail_eq {s : State} {r : Rail} {g : Gate} (hgate : gateOf r.state r.origin r.monitor = g) :
    s.setRail r = withRail s r g := by
  subst hgate
  rfl

theorem moveRail_eq {s : State} {r : Rail} {d : Driver} {g : Gate}
    (hdriver : (if s.clock.started then driverOf r else .coast) = d) (hgate : gateOf r.state r.origin r.monitor = g) :
    s.moveRail r = withRail s { r with driver := d } g := by
  subst hdriver hgate
  rfl

/-- Entry into WAITING, before the first frame tick with the driver at COAST (R99, R92; log 21). -/
theorem enterWaiting_eq (o : RailOrigin) (target : RailEnd) (s : State) : enterWaiting o target s =
    waiting o target (if s.clock.started then releaseDriver s.rail.config o else .coast) s := by
  refine moveRail_eq ?_ (gateOf_waiting o s.rail.monitor)
  rw [driverOf_waiting rfl rfl]

/-! ## RAIL_MOVE (R98 to R100) -/

theorem exec_railMove {tag : Byte} {target : RailEnd} {s t : State} {o : MoveOutcome} (hw : windowOpen s = true)
    (hmove : moveTo target s = (t, o)) : exec (.railMove tag (leBytes 1 target.code)) s =
      .next (appendReply 0x30 tag (.ok (leBytes 1 o.code ++ leBytes 1 t.rail.state.code)) t) := by
  have hop : railMoveOp (leBytes 1 target.code) s =
      ((moveTo target s).1, .ok (leBytes 1 (moveTo target s).2.code ++ leBytes 1 (moveTo target s).1.rail.state.code)) := by
    cases target <;> rfl
  exact completed hw (hop.trans (by rw [hmove]))

theorem moveTo_already {target : RailEnd} {s : State} (h : s.rail.state = target.state) :
    moveTo target s = (s, .already) := by
  cases target <;> simp [moveTo, h, RailEnd.state]

theorem moveTo_fromAcoustic {s : State} (h : s.rail.state = .acoustic) :
    moveTo .silent s = (enterWaiting .acoustic .silent s, .waiting) := by
  simp [moveTo, h]

theorem moveTo_fromSilent {s : State} (h : s.rail.state = .silent) :
    moveTo .acoustic s = (enterWaiting .silent .acoustic s, .waiting) := by
  simp [moveTo, h]

theorem moveTo_fromNoEnd {target : RailEnd} {s : State} (h : s.rail.state = .unknown ∨ s.rail.state = .railFault) :
    moveTo target s = (enterWaiting .unknown target s, .waiting) := by
  rcases h with h | h <;> simp [moveTo, h]

/-- A move back to the end that the wait began at is a cancellation (R98). -/
theorem moveTo_cancelled {target : RailEnd} {s : State} (h : s.rail.state = .waiting)
    (horigin : s.rail.origin = some target.origin) : moveTo target s =
      (raiseNotice .railDone (doneData 1 target.state 0 0 0)
        (withRail s { s.rail with state := target.state, origin := none, target := none, clearance := 0 }
          (liveGate s.rail.monitor (decide (target = .acoustic)))), .cancelled) := by
  have hcancel : moveTo target s = (cancelMove target s, .cancelled) := by simp [moveTo, h, horigin]
  have hset : s.setRail { s.rail with state := target.state, origin := none, target := none, clearance := 0 } = _ :=
    setRail_eq (gateOf_end target none s.rail.monitor)
  rw [hcancel, cancelMove, hset]
  rfl

theorem moveTo_waiting_unchanged {target : RailEnd} {s : State} (h : s.rail.state = .waiting)
    (horigin : s.rail.origin ≠ some target.origin) (htarget : s.rail.target = some target) :
    moveTo target s = (s, .unchanged) := by
  simp [moveTo, h, horigin, htarget]

theorem moveTo_retargeted {target : RailEnd} {s : State} (h : s.rail.state = .waiting)
    (horigin : s.rail.origin = some .unknown) (htarget : s.rail.target ≠ some target) :
    moveTo target s = (withRail s { s.rail with target := some target } (liveGate s.rail.monitor false), .retargeted) := by
  have hends : (RailOrigin.unknown : RailOrigin) ≠ target.origin := by cases target <;> nofun
  have hgate : gateOf s.rail.state s.rail.origin s.rail.monitor = liveGate s.rail.monitor false := by
    rw [h, horigin, gateOf_waiting]
    rfl
  have hmove : moveTo target s = (s.setRail { s.rail with target := some target }, .retargeted) := by
    simp [moveTo, h, horigin, htarget, hends]
  have hset : s.setRail { s.rail with target := some target } = _ := setRail_eq hgate
  rw [hmove, hset]

theorem moveTo_moving_unchanged {target : RailEnd} {s : State}
    (h : s.rail.state = .engaging ∨ s.rail.state = .releasing ∨ s.rail.state = .paused)
    (htarget : s.rail.target = some target) : moveTo target s = (s, .unchanged) := by
  rcases h with h | h | h <;> simp [moveTo, h, htarget]

theorem moveTo_nextStored {target : RailEnd} {s : State}
    (h : s.rail.state = .engaging ∨ s.rail.state = .releasing ∨ s.rail.state = .paused)
    (htarget : s.rail.target ≠ some target) :
    moveTo target s = (withRail s { s.rail with next := some target } (liveGate s.rail.monitor false), .nextStored) := by
  have hgate : gateOf s.rail.state s.rail.origin s.rail.monitor = liveGate s.rail.monitor false := by
    rw [liveGate_false]
    rcases h with h | h | h <;> exact gateOf_away (by simp [h]) (by simp [h]) _ _
  have hmove : moveTo target s = (s.setRail { s.rail with next := some target }, .nextStored) := by
    rcases h with h | h | h <;> simp [moveTo, h, htarget]
  have hset : s.setRail { s.rail with next := some target } = _ := setRail_eq hgate
  rw [hmove, hset]

/-- Settles O27: one equation of the move per row of the table. -/
theorem railMoveFollowsTheTable : Obligations.RailMoveFollowsTheTable := by
  intro tag target body v s hw r i answer released
  have hanswer {t : State} {o : MoveOutcome} (hmove : moveTo target s = (t, o)) : exec i s = .next (answer o.code t) :=
    exec_railMove hw hmove
  refine ⟨fun h => hanswer (moveTo_already h), ?fromAcoustic, ?fromSilent, fun h => ?fromNoEnd,
    fun h ho => hanswer (moveTo_cancelled h ho), fun h ho ht => hanswer (moveTo_waiting_unchanged h ho ht),
    fun h ho ht => hanswer (moveTo_retargeted h ho ht), fun h ht => hanswer (moveTo_moving_unchanged h ht),
    fun h ht => hanswer (moveTo_nextStored h ht), fun hv => ?badValue, fun hlen => ?badLength⟩
  case fromAcoustic =>
    rintro h rfl
    rw [hanswer (moveTo_fromAcoustic h), enterWaiting_eq]
    rfl
  case fromSilent =>
    rintro h rfl
    rw [hanswer (moveTo_fromSilent h), enterWaiting_eq]
    rfl
  case fromNoEnd =>
    have hcoast : (if s.clock.started then releaseDriver s.rail.config .unknown else .coast) = Driver.coast := ite_self _
    rw [hanswer (moveTo_fromNoEnd h), enterWaiting_eq, hcoast]
    rfl
  case badValue =>
    have hfield : 1 < u8At [v] 0 := hv
    exact completed hw (by rw [railMoveOp, if_neg (by simp), if_pos hfield])
  case badLength => exact completed hw (by rw [railMoveOp, if_pos hlen])

/-! ## RAIL_CONFIG (R96) -/

theorem exec_railConfig {tag : Byte} {body : List Byte} {s t : State} {r : MsgResult} (hw : windowOpen s = true)
    (hop : railConfigOp body s = (t, r)) : exec (.railConfig tag body) s = .next (appendReply 0x31 tag r t) :=
  completed hw hop

/-- The body of a RAIL_CONFIG write. -/
def configBody (limit timeout : Nat) (silent acoustic fault : Byte) : List Byte :=
  leBytes 2 limit ++ leBytes 2 timeout ++ [silent, acoustic, fault]

theorem railConfigOp_badValue {limit timeout : Nat} {silent acoustic fault : Byte}
    (h : 2 < silent.toNat ∨ 2 < acoustic.toNat ∨ 1 < fault.toNat) (s : State) :
    railConfigOp (configBody limit timeout silent acoustic fault) s = (s, .err .badValue) := by
  have hlen : (configBody limit timeout silent acoustic fault).length = 7 := rfl
  rw [railConfigOp, if_neg (by simp [hlen]), if_pos hlen]
  exact if_pos h

theorem railConfigOp_write {limit timeout : Nat} {silent acoustic fault : Byte} (hl : limit < 65536) (ht : timeout < 65536)
    (hs : silent.toNat ≤ 2) (ha : acoustic.toNat ≤ 2) (hf : fault.toNat ≤ 1) (s : State) :
    let c : RailConfig :=
      { motionLimit := clampNat 100 4000 limit, clearTimeout := clampNat 100 10000 timeout
        silentMode := releaseOf silent.toNat, acousticMode := releaseOf acoustic.toNat
        faultMode := if fault.toNat = 0 then .coast else .brake }
    railConfigOp (configBody limit timeout silent acoustic fault) s = ({ s with rail := { s.rail with config := c } },
      .ok (railConfigBytes c ++ boolByte (decide (limit < 100 ∨ 4000 < limit)) ++
        boolByte (decide (timeout < 100 ∨ 10000 < timeout)))) := by
  intro c
  have hlen : (configBody limit timeout silent acoustic fault).length = 7 := rfl
  have hlimit : u16At (configBody limit timeout silent acoustic fault) 0 = limit := u16_of_bytes hl
  have htimeout : u16At (configBody limit timeout silent acoustic fault) 2 = timeout := u16_of_bytes ht
  have hmodes : ¬ (2 < u8At (configBody limit timeout silent acoustic fault) 4 ∨
      2 < u8At (configBody limit timeout silent acoustic fault) 5 ∨
      1 < u8At (configBody limit timeout silent acoustic fault) 6) := by
    change ¬ (2 < silent.toNat ∨ 2 < acoustic.toNat ∨ 1 < fault.toNat)
    omega
  have hstored : railConfigOfBody (configBody limit timeout silent acoustic fault) = c := by
    rw [railConfigOfBody, hlimit, htimeout]
    rfl
  rw [railConfigOp, if_neg (by simp [hlen]), if_pos hlen, if_neg hmodes]
  simp only [hstored, hlimit, htimeout, c, ← clampNat_ne_iff]

/-- Settles O28: the refusal, the write, the read and the length are the branches of the message. -/
theorem railConfigStoresClamped : Obligations.RailConfigStoresClamped := by
  intro tag limit timeout silent acoustic fault body s hw hl ht i mode stored bytes
  exact ⟨fun h => exec_railConfig hw (railConfigOp_badValue h s),
    fun hs ha hf => exec_railConfig hw (railConfigOp_write hl ht hs ha hf s), exec_railConfig hw rfl,
    fun h0 h7 => exec_railConfig hw (by rw [railConfigOp, if_neg h0, if_neg h7])⟩

/-! ## RAIL_MONITOR (R112) -/

theorem exec_railMonitor {tag : Byte} {body : List Byte} {s t : State} {r : MsgResult} (hw : windowOpen s = true)
    (hop : railMonitorOp body s = (t, r)) : exec (.railMonitor tag body) s = .next (appendReply 0x33 tag r t) :=
  completed hw hop

/-- Settles O29: the flag set is a rail replaced, whose gate is the live gate; the resets build the rail anew. -/
theorem railMonitorSetsTheFlag : Obligations.RailMonitorSetsTheFlag := by
  intro tag v body sw s atAcoustic on t
  have hone : [v].length = 1 := rfl
  refine ⟨fun hw => ⟨fun hv => ?set, fun hv => ?badValue, exec_railMonitor hw rfl, fun hlen => ?badLength⟩, rfl, rfl,
    ?pinReset, ?softReset⟩
  case set =>
    have hfield : ¬ 1 < u8At [v] 0 := Nat.not_lt.2 hv
    have hset : s.setRail { s.rail with monitor := on } = t := setRail_eq (gateOf_eq_liveGate _ _ _)
    refine exec_railMonitor hw ?_
    rw [railMonitorOp, if_neg (by simp), if_pos hone, if_neg hfield]
    exact congrArg (fun u : State => (u, MsgResult.ok (boolByte u.rail.monitor ++ leBytes 1 u.rail.gate.code))) hset
  case badValue =>
    have hfield : 1 < u8At [v] 0 := hv
    exact exec_railMonitor hw (by rw [railMonitorOp, if_neg (by simp), if_pos hone, if_pos hfield])
  case badLength =>
    exact exec_railMonitor hw (by rw [railMonitorOp, if_neg (by omega), if_neg (by omega)])
  case pinReset =>
    rintro u ⟨⟩
    rfl
  case softReset =>
    intro u hdue hu
    have hreset : exec (.softReset sw) s = .next (softReset sw s) := by
      change execSoftReset sw s = _
      rw [execSoftReset, if_pos hdue]
    rw [hreset] at hu
    cases hu
    rfl

/-! ## The evaluation of a tick (R93, R97) -/

theorem satisfied_iff_clear (s : State) : (interlockNow s).satisfied = true ↔ clear s := by
  simp [interlockNow, clear, and_assoc]

theorem satisfied_eq {b : Bool} {s : State} (hb : b = true ↔ clear s) : (interlockNow s).satisfied = b :=
  Bool.eq_iff_iff.2 ((satisfied_iff_clear s).trans hb.symm)

theorem true_iff_clear {s : State} (h : clear s) : true = true ↔ clear s := ⟨fun _ => h, fun _ => rfl⟩

theorem false_iff_clear {s : State} (h : ¬ clear s) : false = true ↔ clear s := ⟨nofun, fun hc => absurd hc h⟩

/-- The switches latched and the conditions evaluated (R93, R97). -/
theorem evaluate_latch_eq (sw : Switches) {b : Bool} {s : State} (hb : b = true ↔ clear s) :
    evaluate (latch sw s) = examined sw b s := by
  have hsat := satisfied_eq hb
  subst hsat
  rfl

/-- The driver mode that a tick leaves, once its event has been handled (R92, R101). -/
def driverSet (started : Bool) (r : Rail) : Driver :=
  match r.state with
  | .acoustic | .silent | .waiting | .railFault => if started then driverOf r else .coast
  | .unknown | .engaging | .releasing | .paused => r.driver

theorem resetDriver_eq (s : State) :
    resetDriver s = { s with rail := { s.rail with driver := driverSet s.clock.started s.rail } } := by
  cases hstate : s.rail.state with
  | acoustic | silent | waiting | railFault => simp only [resetDriver, driverSet, hstate]
  | unknown | engaging | releasing | paused =>
    have hsame : resetDriver s = s := by simp only [resetDriver, hstate]
    have hdriver : driverSet s.clock.started s.rail = s.rail.driver := by simp only [driverSet, hstate]
    rw [hsame, hdriver]

/-- Where the driver is set again, to what its state asks for; elsewhere it stands. -/
theorem resetDriver_of {s : State} {d : Driver} (h : driverSet s.clock.started s.rail = d) :
    resetDriver s = { s with rail := { s.rail with driver := d } } := h ▸ resetDriver_eq s

theorem driverSet_end {r : Rail} {e : RailEnd} (h : r.state = e.state) :
    driverSet true r = releaseDriver r.config e.origin := by
  have hset : driverSet true r = driverOf r := by cases e <;> simp [driverSet, h, RailEnd.state]
  rw [hset, driverOf_end h]

theorem driverSet_waiting {r : Rail} {o : RailOrigin} (h : r.state = .waiting) (ho : r.origin = some o) :
    driverSet true r = releaseDriver r.config o := by
  have hset : driverSet true r = driverOf r := by simp [driverSet, h]
  rw [hset, driverOf_waiting h ho]

theorem driverSet_railFault {r : Rail} (h : r.state = .railFault) :
    driverSet true r = match r.config.faultMode with | .coast => .coast | .brake => .brake := by
  have hset : driverSet true r = driverOf r := by simp [driverSet, h]
  rw [hset, driverOf_railFault h]

theorem driverSet_stands {r : Rail} (started : Bool)
    (h : r.state = .engaging ∨ r.state = .releasing ∨ r.state = .paused ∨ r.state = .unknown) :
    driverSet started r = r.driver := by
  rcases h with h | h | h | h <;> simp only [driverSet, h]

theorem resetDriver_raiseNotice (kind : NoticeKind) (data : List Byte) (s : State) :
    resetDriver (raiseNotice kind data s) = raiseNotice kind data (resetDriver s) := by
  rw [resetDriver_eq, resetDriver_eq]
  unfold raiseNotice
  split <;> rfl

/-- A rail that has just been moved has the driver mode of its state. -/
theorem resetDriver_moveRail (s : State) (r : Rail) : resetDriver (s.moveRail r) = s.moveRail r := by
  unfold resetDriver
  split <;> rfl

/-- A tick that enters no conflict: its event, on the switches and the conditions as examined (R101). -/
theorem railTick_eq {sw : Switches} {b : Bool} {s : State} (hb : b = true ↔ clear s)
    (hev : railEvent (latch sw s) ≠ .conflict) :
    railTick sw s = resetDriver (railApply (railEvent (latch sw s)) (examined sw b s)) := by
  have hsame : railEvent (evaluate (latch sw s)) = railEvent (latch sw s) := rfl
  rw [railTick, railPrepare, if_neg hev, hsame, evaluate_latch_eq sw hb]

/-! ## The event of a tick (R101) -/

section Event

variable {sw : Switches} {s : State}

theorem atTarget_latch {target : RailEnd} (htarget : s.rail.target = some target) :
    atTarget (latch sw s).rail = endSwitch sw target := by
  have hlatch : (latch sw s).rail.target = some target := htarget
  rw [atTarget, hlatch]
  cases target <;> rfl

theorem railEvent_waiting {target : RailEnd} (hno : (sw.acoustic && sw.silent) = false) (hstate : s.rail.state = .waiting)
    (htarget : s.rail.target = some target) : railEvent (latch sw s) =
      if (interlockNow s).satisfied then (if endSwitch sw target then .arrival else .start)
      else if s.rail.clearance ≤ 1 then .clearTimeout else .waitOn := by
  have hlatched : (latch sw s).rail.state = .waiting := hstate
  rw [← atTarget_latch htarget]
  unfold railEvent
  simp only [hlatched]
  rw [if_neg (by simpa [latch] using hno)]
  rfl

theorem railEvent_driving {target : RailEnd} (hno : (sw.acoustic && sw.silent) = false)
    (hstate : s.rail.state = .engaging ∨ s.rail.state = .releasing) (htarget : s.rail.target = some target) :
    railEvent (latch sw s) = if endSwitch sw target then .arrival else if !(interlockNow s).satisfied then .pause
      else if s.rail.motion ≤ 1 then .stall else .driveOn := by
  have hlatched : (latch sw s).rail.state = .engaging ∨ (latch sw s).rail.state = .releasing := hstate
  rw [← atTarget_latch htarget]
  unfold railEvent
  dsimp only
  rw [if_neg (by simpa [latch] using hno)]
  rcases hlatched with h | h <;> (simp only [h]; rfl)

theorem railEvent_paused {target : RailEnd} (hno : (sw.acoustic && sw.silent) = false) (hstate : s.rail.state = .paused)
    (htarget : s.rail.target = some target) : railEvent (latch sw s) =
      if endSwitch sw target then .arrival else if (interlockNow s).satisfied then .resume
      else if 8 * s.rail.config.clearTimeout < s.rail.pause + 1 then .blocked else .pauseOn := by
  have hlatched : (latch sw s).rail.state = .paused := hstate
  rw [← atTarget_latch htarget]
  unfold railEvent
  simp only [hlatched]
  rw [if_neg (by simpa [latch] using hno)]
  rfl

theorem railEvent_end {own : RailEnd} (hno : (sw.acoustic && sw.silent) = false) (hstate : s.rail.state = own.state) :
    railEvent (latch sw s) = if endSwitch sw own then .still else .displaced := by
  have hlatched : (latch sw s).rail.state = own.state := hstate
  unfold railEvent
  dsimp only
  rw [if_neg (by simpa [latch] using hno)]
  cases own <;> (simp only [hlatched, RailEnd.state]; rfl)

theorem railEvent_still (hno : (sw.acoustic && sw.silent) = false)
    (hstate : s.rail.state = .railFault ∨ s.rail.state = .unknown) : railEvent (latch sw s) = .still := by
  have hlatched : (latch sw s).rail.state = .railFault ∨ (latch sw s).rail.state = .unknown := hstate
  unfold railEvent
  dsimp only
  rw [if_neg (by simpa [latch] using hno)]
  rcases hlatched with h | h <;> simp only [h]

theorem railEvent_conflict : railEvent (latch { acoustic := true, silent := true } s) =
    if s.rail.state = .railFault ∧ s.rail.reason = some .switchConflict then .still else .conflict := rfl

end Event

/-! ## The life of a move (R102 to R109) -/

/-- A move that has ended at its target, its notice raised, before a stored next target is taken up (R106, R110). -/
def ended (target : RailEnd) (s : State) : State :=
  raiseNotice .railDone
    (doneData 0 target.state s.rail.pauseCount (s.rail.startLimit - s.rail.motion) s.rail.pause)
    (withRail s { s.rail with
      state := target.state, origin := none, target := none, next := none
      driver := releaseDriver s.rail.config target.origin }
      (liveGate s.rail.monitor (decide (target = .acoustic))))

section Move

variable {s : State} (hstarted : s.clock.started = true)

include hstarted

/-- A rail moved after the first frame tick, with the driver mode and the gate of its new state. -/
theorem moveRail_started {r : Rail} {d : Driver} {g : Gate} (hdriver : driverOf r = d)
    (hgate : gateOf r.state r.origin r.monitor = g) : s.moveRail r = withRail s { r with driver := d } g :=
  moveRail_eq ((if_pos hstarted).trans hdriver) hgate

/-- A drive toward the target, from WAITING or PAUSED (R103, R105). -/
theorem moveRail_driving {target : RailEnd} {r : Rail} (hstate : r.state = target.drive) :
    s.moveRail r = withRail s (driving target r) .opened := by
  obtain ⟨st, _⟩ := r
  cases target <;> (cases hstate; exact moveRail_started hstarted rfl (gateOf_away (by simp) (by simp) _ _))

/-- Arrival at a target, a stored next target beginning a new wait (R106, R100). -/
theorem arrive_eq (target : RailEnd) : arrive target s =
    match s.rail.next with
    | none => ended target s
    | some n => waiting target.origin n (releaseDriver s.rail.config target.origin) (ended target s) := by
  have hmove : s.moveRail { s.rail with state := target.state, origin := none, target := none, next := none } = _ :=
    moveRail_started hstarted (driverOf_end rfl) (gateOf_end target none s.rail.monitor)
  have hended : railDone 0 target.state s.rail.pauseCount (s.rail.startLimit - s.rail.motion) s.rail.pause (s.moveRail _) =
      ended target s := congrArg (raiseNotice .railDone _) hmove
  have harrive : arrive target s = match s.rail.next with
      | none => ended target s
      | some n => enterWaiting target.origin n (ended target s) := by
    rw [← hended]
    rfl
  have hclock : (ended target s).clock.started = true := by simpa [ended, withRail] using hstarted
  have hconfig : (ended target s).rail.config = s.rail.config := by simp [ended, withRail]
  rw [harrive]
  split
  · rfl
  · rw [enterWaiting_eq, if_pos hclock, hconfig]

/-- A wait that expires (R102). -/
theorem expireWait_eq {origin : RailOrigin} (horigin : s.rail.origin = some origin) : expireWait s =
    raiseNotice .railDone (doneData 2 origin.state 0 0 0) (withRail s { s.rail with
      state := origin.state, origin := none, target := none, clearance := 0
      driver := releaseDriver s.rail.config origin } (liveGate s.rail.monitor (decide (origin = .acoustic)))) := by
  have hmove : s.moveRail { s.rail with state := origin.state, origin := none, target := none, clearance := 0 } = _ :=
    moveRail_started hstarted (driverOf_shown rfl) (gateOf_shown origin none s.rail.monitor)
  rw [expireWait, horigin]
  exact congrArg (raiseNotice .railDone _) hmove

/-- A rail displaced from an end (R109). -/
theorem displace_eq {shown : RailOrigin}
    (hshown : railStateOf { acoustic := s.rail.acousticSwitch, silent := s.rail.silentSwitch } = shown.state) :
    displace s = raiseNotice .railDone (doneData 3 shown.state 0 0 0) (withRail s { s.rail with
      state := shown.state, driver := releaseDriver s.rail.config shown }
      (liveGate s.rail.monitor (decide (shown = .acoustic)))) := by
  have hmove : s.moveRail { s.rail with state := shown.state } = _ :=
    moveRail_started hstarted (driverOf_shown rfl) (gateOf_shown shown s.rail.origin s.rail.monitor)
  rw [displace, hshown]
  exact congrArg (raiseNotice .railDone _) hmove

/-- The start of a move (R103). -/
theorem startMove_eq (target : RailEnd) : startMove target s = withRail s (driving target { s.rail with
    origin := none, clearance := 0, motion := 8 * s.rail.config.motionLimit
    startLimit := 8 * s.rail.config.motionLimit }) .opened :=
  (moveRail_driving hstarted rfl).trans (by cases target <;> rfl)

/-- A resume (R105). -/
theorem resumeMove_eq {target : RailEnd} (htarget : s.rail.target = some target) :
    resumeMove s = withRail s (driving target s.rail) .opened := by
  rw [resumeMove, htarget]
  exact (moveRail_driving hstarted rfl).trans (by cases target <;> rfl)

/-- A pause (R104). -/
theorem pauseMove_eq : pauseMove s = withRail s { s.rail with
    state := .paused, driver := .brake, pauseCount := min 255 (s.rail.pauseCount + 1) } .opened :=
  moveRail_started hstarted rfl (gateOf_away (by simp) (by simp) _ _)

/-- Entry into RAIL_FAULT (R108). -/
theorem enterRailFault_eq (reason : RailReason) :
    enterRailFault reason s = faulted reason (targetLatchByte s.rail (Config.freeByte s.free)) s := by
  refine moveRail_started ?_ (driverOf_railFault rfl) (gateOf_away (by simp) (by simp) _ _)
  simpa using hstarted

end Move

/-- The byte of target and latch has its stated bits, whatever its free ones (R110; log 26). -/
theorem targetLatchByte_bits (r : Rail) (free : Byte) :
    latchByte (targetLatchByte r free) r.target { acoustic := r.acousticSwitch, silent := r.silentSwitch } := by
  have hlow (b : Byte) : (b ||| (free &&& 0x3C#8)).toNat % 4 = b.toNat % 4 := by
    have hor := Nat.or_mod_two_pow (a := b.toNat) (b := free.toNat &&& 60) (n := 2)
    have hand := Nat.and_mod_two_pow (a := free.toNat) (b := 60) (n := 2)
    simpa [hand] using hor
  have hacoustic (b : Byte) : (b ||| (free &&& 0x3C#8)).getLsbD 6 = b.getLsbD 6 := by simp
  have hsilent (b : Byte) : (b ||| (free &&& 0x3C#8)).getLsbD 7 = b.getLsbD 7 := by simp
  unfold latchByte targetLatchByte
  rw [hlow, hacoustic, hsilent]
  rcases r.target with _ | _ | _ <;> cases r.acousticSwitch <;> cases r.silentSwitch <;> decide

/-! ## What a tick's event leads to, once the conditions have been examined -/

/-- The events that replace the rail: the driver is then the one of its new state, and setting it again changes nothing. -/
theorem resetDriver_railApply {ev : RailEvent}
    (h : ev ∈ [.conflict, .displaced, .arrival, .start, .clearTimeout, .pause, .stall, .resume, .blocked]) (s : State) :
    resetDriver (railApply ev s) = railApply ev s := by
  have hnotice (kind : NoticeKind) (data : List Byte) (r : Rail) :
      resetDriver (raiseNotice kind data (s.moveRail r)) = raiseNotice kind data (s.moveRail r) := by
    rw [resetDriver_raiseNotice, resetDriver_moveRail]
  cases ev with
  | conflict => exact resetDriver_moveRail _ _
  | displaced => exact hnotice _ _ _
  | arrival =>
    unfold railApply arrive
    dsimp only
    split
    · exact hnotice _ _ _
    · exact resetDriver_moveRail _ _
  | start => exact resetDriver_moveRail _ _
  | clearTimeout => exact hnotice _ _ _
  | pause => exact resetDriver_moveRail _ _
  | stall => exact resetDriver_moveRail _ _
  | resume => exact resetDriver_moveRail _ _
  | blocked => exact resetDriver_moveRail _ _
  | waitOn | driveOn | pauseOn | still => simp at h

section Tick

variable {sw : Switches} {b : Bool} {s : State} {ev : RailEvent}

/-- A tick at which the rail moves to another state without a conflict. -/
theorem railTick_moved (hb : b = true ↔ clear s) (hev : railEvent (latch sw s) = ev)
    (hmoves : ev ∈ [.displaced, .arrival, .start, .clearTimeout, .pause, .stall, .resume, .blocked]) :
    railTick sw s = railApply ev (examined sw b s) := by
  have hne : ev ≠ .conflict := by
    rintro rfl
    simp at hmoves
  rw [railTick_eq hb (hev ▸ hne), hev, resetDriver_railApply (List.mem_cons_of_mem _ hmoves)]

/-- The event's command does the work of the tick it falls at (log 1). -/
theorem railEventStep_moved (hb : b = true ↔ clear s) (hev : railEvent (latch sw s) = ev)
    (hmoves : ev ∈ [.displaced, .arrival, .start, .clearTimeout, .pause, .stall, .resume, .blocked]) :
    railEventStep ev sw s = railApply ev (examined sw b s) := by
  rw [railEventStep, if_pos hev, railTick_moved hb hev hmoves]

/-- A tick that leaves the rail in its state, with its driver set again. -/
theorem railTick_stays {d : Driver} {u : State} (hb : b = true ↔ clear s) (hev : railEvent (latch sw s) = ev)
    (hne : ev ≠ .conflict) (happly : railApply ev (examined sw b s) = u)
    (hdriver : driverSet u.clock.started u.rail = d) :
    runWork (.rail sw) s = (none, { u with rail := { u.rail with driver := d } }) := by
  subst happly
  rw [← resetDriver_of hdriver, ← hev, ← railTick_eq hb (hev ▸ hne)]
  rfl

/-- An arrival, with a stored next target taken up. -/
theorem railApply_arrival {target : RailEnd} (hstarted : s.clock.started = true) (htarget : s.rail.target = some target) :
    railApply .arrival (examined sw b s) = arrived sw b target s := by
  have harrive : railApply .arrival (examined sw b s) = arrive target (examined sw b s) := by
    change arrive (s.rail.target.getD .silent) _ = _
    rw [htarget]
    rfl
  rw [harrive, arrive_eq (s := examined sw b s) hstarted]
  rfl

end Tick

/-- Settles O30: a wait's tick comes to one of four events, and each is an equation of the life of a move. -/
theorem waitEndsInAStartAnArrivalOrATimeout : Obligations.WaitEndsInAStartAnArrivalOrATimeout := by
  intro sw origin target s hstarted hstate horigin htarget hno r
  have hevent := railEvent_waiting hno hstate htarget
  refine ⟨fun hclear hswitch => ?start, fun hclear hswitch => ?arrival, fun hblocked h1 => ?timeout,
    fun hblocked h1 => ?waitOn⟩
  case start =>
    have hb := true_iff_clear hclear
    have hev : railEvent (latch sw s) = .start := by simp [hevent, satisfied_eq hb, hswitch]
    have hexec : exec (.railStart sw) s = .next (railEventStep .start sw s) := by
      change execRailStart sw s = _
      rw [execRailStart, if_neg (by simp [hev])]
    have happly : railApply .start (examined sw true s) = startMove target (examined sw true s) := by
      change startMove (s.rail.target.getD .silent) _ = _
      rw [htarget]
      rfl
    rw [hexec, railEventStep_moved hb hev (by simp), happly, startMove_eq (s := examined sw true s) hstarted]
    rfl
  case arrival =>
    have hb := true_iff_clear hclear
    have hev : railEvent (latch sw s) = .arrival := by simp [hevent, satisfied_eq hb, hswitch]
    have hexec : exec (.railStart sw) s = .next (railTick sw s) := by
      change execRailStart sw s = _
      rw [execRailStart, if_pos ⟨hstate, hev⟩]
    rw [hexec, railTick_moved hb hev (by simp), railApply_arrival hstarted htarget]
  case timeout =>
    have hb := false_iff_clear hblocked
    have hev : railEvent (latch sw s) = .clearTimeout := by
      have hdue : s.rail.clearance ≤ 1 := h1.le
      simp [hevent, satisfied_eq hb, hdue]
    change Host.Outcome.next (railEventStep .clearTimeout sw s) = _
    rw [railEventStep_moved hb hev (by simp)]
    exact congrArg _ (expireWait_eq (s := examined sw false s) hstarted horigin)
  case waitOn =>
    have hb := false_iff_clear hblocked
    have hev : railEvent (latch sw s) = .waitOn := by
      have hlater : ¬ s.rail.clearance ≤ 1 := Nat.not_le.2 h1
      simp [hevent, satisfied_eq hb, hlater]
    exact railTick_stays hb hev nofun rfl
      ((congrArg (driverSet · _) hstarted).trans (driverSet_waiting hstate horigin))

/-! ## The scan-frame evaluation (R97, R104) -/

/-- The switches as they stand latched. -/
def latchedSwitches (r : Rail) : Switches := { acoustic := r.acousticSwitch, silent := r.silentSwitch }

theorem evaluate_eq {b : Bool} {s : State} (hb : b = true ↔ clear s) :
    evaluate s = examined (latchedSwitches s.rail) b s := evaluate_latch_eq (latchedSwitches s.rail) hb

theorem railScanEval_pauses {s : State} (hdrives : s.rail.state = .engaging ∨ s.rail.state = .releasing)
    (hblocked : ¬ clear s) : railScanEval s = pauseMove (examined (latchedSwitches s.rail) false s) := by
  have hb := false_iff_clear hblocked
  rw [← evaluate_eq hb, railScanEval]
  exact if_pos ⟨hdrives, satisfied_eq hb⟩

theorem railScanEval_stands {b : Bool} {s : State} (hb : b = true ↔ clear s)
    (h : clear s ∨ ¬ (s.rail.state = .engaging ∨ s.rail.state = .releasing)) :
    railScanEval s = examined (latchedSwitches s.rail) b s := by
  rw [← evaluate_eq hb, railScanEval]
  refine if_neg ?_
  rintro ⟨hdrives, hunsatisfied⟩
  rcases h with hclear | hstill
  · have hsat : (interlockNow s).satisfied = true := (satisfied_iff_clear s).2 hclear
    exact absurd (hsat.symm.trans hunsatisfied) nofun
  · exact hstill hdrives

/-- A tick's arrival of a move under way (R106). -/
theorem exec_railArrival {sw : Switches} {target : RailEnd} {b : Bool} {s : State} (hstarted : s.clock.started = true)
    (htarget : s.rail.target = some target) (hno : (sw.acoustic && sw.silent) = false)
    (hmoving : (s.rail.state = .engaging ∨ s.rail.state = .releasing) ∨ s.rail.state = .paused)
    (hswitch : endSwitch sw target = true) (hb : b = true ↔ clear s) :
    exec (.railArrival sw) s = .next (arrived sw b target s) := by
  have hev : railEvent (latch sw s) = .arrival := by
    rcases hmoving with hdrives | hstate
    · exact (railEvent_driving hno hdrives htarget).trans (if_pos hswitch)
    · exact (railEvent_paused hno hstate htarget).trans (if_pos hswitch)
  change Host.Outcome.next (railEventStep .arrival sw s) = _
  rw [railEventStep_moved hb hev (by simp), railApply_arrival hstarted htarget]

/-- An entry into RAIL_FAULT from an examined rail, with the stated bits of its notice (R108, R110). -/
theorem faulted_of_examined {reason : RailReason} {sw : Switches} {target : RailEnd} {u : State}
    (hstarted : u.clock.started = true) (htarget : u.rail.target = some target)
    (hacoustic : u.rail.acousticSwitch = sw.acoustic) (hsilent : u.rail.silentSwitch = sw.silent) :
    ∃ b, latchByte b (some target) sw ∧ enterRailFault reason u = faulted reason b u := by
  refine ⟨targetLatchByte u.rail (Config.freeByte u.free), ?_, enterRailFault_eq hstarted reason⟩
  have hbits := targetLatchByte_bits u.rail (Config.freeByte u.free)
  rwa [htarget, hacoustic, hsilent] at hbits

/-- Settles O31: each clause names the tick's event by the state, the switch, the interlock and the timer, and cites its
equation; the scan-frame clauses are the two outcomes of the evaluation. -/
theorem aMoveArrivesStallsResumesOrIsBlocked : Obligations.AMoveArrivesStallsResumesOrIsBlocked := by
  intro sw target s hstarted htarget hno r drives there paused kept
  have hpaused (v : Switches) : pauseMove (examined v false s) = paused (examined v false s) :=
    pauseMove_eq (s := examined v false s) hstarted
  have hdriving (hdrives : drives) (haway : endSwitch sw target = false) := (railEvent_driving hno hdrives htarget).trans
    (if_neg (by simp [haway]))
  have hpausing (hstate : s.rail.state = .paused) (haway : endSwitch sw target = false) :=
    (railEvent_paused hno hstate htarget).trans (if_neg (by simp [haway]))
  refine ⟨fun hmoving hswitch => ⟨fun hclear => ?arrivalClear, fun hblocked => ?arrivalBlocked⟩,
    fun hdrives haway hblocked => ?pause,
    fun hdrives hblocked => (railScanEval_pauses hdrives hblocked).trans (hpaused kept),
    fun hstill hblocked => railScanEval_stands (false_iff_clear hblocked) (.inr hstill),
    fun hclear => railScanEval_stands (true_iff_clear hclear) (.inl hclear),
    fun hdrives haway hclear h1 => ?stall, fun hstate haway hclear => ?resume,
    fun hstate haway hblocked hover => ?blocked, fun hdrives haway hclear hmore => ?driveOn,
    fun hstate haway hblocked hwithin => ?pauseOn⟩
  case arrivalClear => exact exec_railArrival hstarted htarget hno hmoving hswitch (true_iff_clear hclear)
  case arrivalBlocked => exact exec_railArrival hstarted htarget hno hmoving hswitch (false_iff_clear hblocked)
  case pause =>
    have hb := false_iff_clear hblocked
    have hev : railEvent (latch sw s) = .pause := by simp [hdriving hdrives haway, satisfied_eq hb]
    change ((none : Option Work), railTick sw s) = _
    rw [railTick_moved hb hev (by simp)]
    exact congrArg _ (hpaused sw)
  case stall =>
    have hb := true_iff_clear hclear
    have hev : railEvent (latch sw s) = .stall := by
      have hdue : s.rail.motion ≤ 1 := h1.le
      simp [hdriving hdrives haway, satisfied_eq hb, hdue]
    intro at_
    obtain ⟨b, hbits, hfault⟩ := faulted_of_examined (reason := .stall) (sw := sw)
      (u := { at_ with rail := { at_.rail with motion := 0 } }) hstarted htarget rfl rfl
    refine ⟨b, hbits, ?_⟩
    change Host.Outcome.next (railEventStep .stall sw s) = _
    rw [railEventStep_moved hb hev (by simp)]
    exact congrArg _ hfault
  case resume =>
    have hb := true_iff_clear hclear
    have hev : railEvent (latch sw s) = .resume := by simp [hpausing hstate haway, satisfied_eq hb]
    change Host.Outcome.next (railEventStep .resume sw s) = _
    rw [railEventStep_moved hb hev (by simp)]
    exact congrArg _ (resumeMove_eq (s := examined sw true s) hstarted htarget)
  case blocked =>
    have hb := false_iff_clear hblocked
    have hev : railEvent (latch sw s) = .blocked := by
      have hdue : 8 * s.rail.config.clearTimeout < s.rail.pause + 1 := Nat.lt_succ_of_le hover
      simp [hpausing hstate haway, satisfied_eq hb, hdue]
    intro at_
    obtain ⟨b, hbits, hfault⟩ := faulted_of_examined (reason := .blocked) (sw := sw)
      (u := { at_ with rail := { at_.rail with pause := r.pause + 1 } }) hstarted htarget rfl rfl
    refine ⟨b, hbits, ?_⟩
    change Host.Outcome.next (railEventStep .blocked sw s) = _
    rw [railEventStep_moved hb hev (by simp)]
    exact congrArg _ hfault
  case driveOn =>
    have hb := true_iff_clear hclear
    have hev : railEvent (latch sw s) = .driveOn := by
      have hlater : ¬ s.rail.motion ≤ 1 := Nat.not_le.2 hmore
      simp [hdriving hdrives haway, satisfied_eq hb, hlater]
    exact railTick_stays hb hev nofun rfl
      (driverSet_stands _ (hdrives.elim .inl fun h => .inr (.inl h)))
  case pauseOn =>
    have hb := false_iff_clear hblocked
    have hev : railEvent (latch sw s) = .pauseOn := by
      have hlater : ¬ 8 * s.rail.config.clearTimeout < s.rail.pause + 1 := Nat.not_lt.2 hwithin
      simp [hpausing hstate haway, satisfied_eq hb, hlater]
    exact railTick_stays hb hev nofun rfl (driverSet_stands _ (.inr (.inr (.inl hstate))))

/-- SWITCH_CONFLICT enters RAIL_FAULT with that reason before any evaluation (R93, R101). -/
theorem exec_switchConflict {s : State} (h : ¬ (s.rail.state = .railFault ∧ s.rail.reason = some .switchConflict)) :
    exec .switchConflict s =
      .next (enterRailFault .switchConflict (latch { acoustic := true, silent := true } s)) := by
  have hev : railEvent (latch { acoustic := true, silent := true } s) = .conflict := railEvent_conflict.trans (if_neg h)
  have htick : railTick { acoustic := true, silent := true } s =
      railApply .conflict (latch { acoustic := true, silent := true } s) := by
    rw [railTick, railPrepare, if_pos hev, hev]
    exact resetDriver_railApply (by simp) _
  change Host.Outcome.next (railEventStep .conflict { acoustic := true, silent := true } s) = _
  rw [railEventStep, if_pos hev, htick]
  rfl

/-- A conflict that stands already is no event of its command (logs 1 and 18). -/
theorem exec_switchConflict_stands {s : State} (h : s.rail.state = .railFault ∧ s.rail.reason = some .switchConflict) :
    exec .switchConflict s = .next s := by
  have hev : railEvent (latch { acoustic := true, silent := true } s) = .still := railEvent_conflict.trans (if_pos h)
  change Host.Outcome.next (railEventStep .conflict { acoustic := true, silent := true } s) = _
  rw [railEventStep, if_neg (by simp [hev])]

/-- Settles O32: the displacement from an end, the conflict entered or standing, and a tick without an event by the state. -/
theorem displacementAndConflictFollowTheSwitches : Obligations.DisplacementAndConflictFollowTheSwitches := by
  intro sw own satisfied s hstarted hb
  refine ⟨fun hstate haway => ?displaced, fun hfree => ?conflict,
    fun hfault hreason => exec_switchConflict_stands ⟨hfault, hreason⟩, fun hno => ?quiet⟩
  case displaced =>
    intro shown at_
    have hno : (sw.acoustic && sw.silent) = false := by
      cases own
      · exact Bool.and_eq_false_iff.2 (.inl haway)
      · exact Bool.and_eq_false_iff.2 (.inr haway)
    have hev : railEvent (latch sw s) = .displaced := by simp [railEvent_end hno hstate, haway]
    obtain ⟨hshown, hgate⟩ : railStateOf sw = shown.state ∧ decide (shown = .acoustic) = sw.acoustic := by
      obtain ⟨_ | _, _ | _⟩ := sw
      · exact ⟨rfl, rfl⟩
      · exact ⟨rfl, rfl⟩
      · exact ⟨rfl, rfl⟩
      · cases hno
    change Host.Outcome.next (railEventStep .displaced sw s) = _
    rw [railEventStep_moved hb hev (by simp), ← hgate]
    exact congrArg _ (displace_eq (s := at_) hstarted hshown)
  case conflict =>
    let u := latch { acoustic := true, silent := true } s
    refine ⟨targetLatchByte u.rail (Config.freeByte u.free), targetLatchByte_bits u.rail _, ?_⟩
    rw [exec_switchConflict hfree]
    exact congrArg _ (enterRailFault_eq (s := u) hstarted _)
  case quiet =>
    refine ⟨fun hstate hhere => ?_, fun hstate => ?_, fun hstate => ?_⟩
    · have hev : railEvent (latch sw s) = .still := by simp [railEvent_end hno hstate, hhere]
      exact railTick_stays hb hev nofun rfl ((congrArg (driverSet · _) hstarted).trans (driverSet_end hstate))
    · have hev := railEvent_still hno (.inl hstate)
      exact railTick_stays hb hev nofun rfl ((congrArg (driverSet · _) hstarted).trans (driverSet_railFault hstate))
    · have hev := railEvent_still hno (.inr hstate)
      exact railTick_stays hb hev nofun rfl (driverSet_stands _ (.inr (.inr (.inr hstate))))

end Sys2Proof.Proofs.RailController

/-! PROOFS. Chapters 06 to 11: the reads of status, tables, captured records and identity (R113, R119, R162, R175), and the
messages whose empty body reads (R133, R137, R138, R148, R150, R154, R156, R159). One equation per read, of the
operation alone. -/

namespace Sys2Proof.Proofs.Reports

open Sys2Proof.Machine
open Sys2Proof.Claims (header fadeField pendingField modeField sectionField sectionData partField played)
open Sys2Proof.Proofs.StrikeVelocity (completed u16_of_bytes)
open Sys2Proof.Proofs.Pedals (range_map_getD)

/-! ## Fields -/

theorem leBytes_one_toNat (b : Byte) : leBytes 1 b.toNat = [b] := by
  simp [leBytes]

theorem optBytes_modeField (m : Option MixMode) : optBytes 1 (m.map MixMode.code) = modeField m := by
  cases m <;> rfl

theorem fadeBytes_eq (f : Option Fade) : fadeBytes f = fadeField f := by cases f <;> rfl

theorem pendingBalBytes_eq (p : Option PendingBalance) : pendingBalBytes p = pendingField p := by cases p <;> rfl

theorem sectionBytes_eq (sec : Section) : sectionBytes sec = sectionField sec := by
  unfold sectionBytes sectionField
  cases sec.range <;> rfl

theorem partBytes_eq (q : PartSetting) : partBytes q = partField q := by
  unfold partBytes partField
  cases q.pending <;> rfl

/-- The four parts in their order, each read by its number (R137). -/
theorem partsReply_eq (p : Player) : partsReply p = (List.range 4).flatMap (fun n => partField (partAt p n)) := by
  have hparts : (List.range 4).map (partAt p) = p.parts.toList := by
    have hrange := range_map_getD p.parts.toList resetPart
    rwa [Vector.length_toList] at hrange
  rw [partsReply, ← hparts, List.flatMap_map]
  exact congrArg (List.flatMap · _) (funext fun n => partBytes_eq (partAt p n))

/-! ## The reads of tables and captured records (R119, R162) -/

/-- A GAIN_TABLE_READ of gains that exist. -/
theorem gainTableReadOp_ok {mode start count : Byte}
    (h : mode.toNat ≤ 2 ∧ start.toNat ≤ 63 ∧ 1 ≤ count.toNat ∧ count.toNat ≤ 64) (s : State) :
    gainTableReadOp [mode, start, count] s = (s, .ok ([mode, start, count] ++ (List.range count.toNat).flatMap
      (fun i => leBytes 2 (tableGain (if mode.toNat = 2 then s.mixer.tableR else s.mixer.tableL)
        ((start.toNat + i) % 64))))) := by
  have hfields : ¬ (2 < u8At [mode, start, count] 0 ∨ 63 < u8At [mode, start, count] 1 ∨
      u8At [mode, start, count] 2 = 0 ∨ 64 < u8At [mode, start, count] 2) := by
    change ¬ (2 < mode.toNat ∨ 63 < start.toNat ∨ count.toNat = 0 ∨ 64 < count.toNat)
    omega
  rw [gainTableReadOp, if_neg (by simp), if_neg hfields]
  change (s, MsgResult.ok (leBytes 1 mode.toNat ++ leBytes 1 start.toNat ++ leBytes 1 count.toNat ++ _)) = _
  rw [leBytes_one_toNat, leBytes_one_toNat, leBytes_one_toNat]
  rfl

theorem gainTableReadOp_badValue {mode start count : Byte}
    (h : ¬ (mode.toNat ≤ 2 ∧ start.toNat ≤ 63 ∧ 1 ≤ count.toNat ∧ count.toNat ≤ 64)) (s : State) :
    gainTableReadOp [mode, start, count] s = (s, .err .badValue) := by
  have hfields : 2 < u8At [mode, start, count] 0 ∨ 63 < u8At [mode, start, count] 1 ∨
      u8At [mode, start, count] 2 = 0 ∨ 64 < u8At [mode, start, count] 2 := by
    change 2 < mode.toNat ∨ 63 < start.toNat ∨ count.toNat = 0 ∨ 64 < count.toNat
    omega
  rw [gainTableReadOp, if_neg (by simp), if_pos hfields]

/-- A CAPTURE_READ returns what is held of the records asked for. -/
theorem captureReadOp_ok {slot : Nat} {count : Byte} (hslot : slot < 65536) (h1 : 1 ≤ count.toNat) (h28 : count.toNat ≤ 28)
    (s : State) :
    let a := s.memory.capture
    let given : Nat := min count.toNat (a.header.count - slot)
    captureReadOp (leBytes 2 slot ++ [count]) s = (s, .ok (leBytes 1 s.recorder.state.code ++ header a.header ++
      leBytes 2 slot ++ leBytes 1 given ++ (List.range given).flatMap (fun i => takeBytes (slotAt a.slots (slot + i))))) := by
  have hstart : u16At (leBytes 2 slot ++ [count]) 0 = slot := u16_of_bytes hslot
  have hcount : u8At (leBytes 2 slot ++ [count]) 2 = count.toNat := rfl
  have hlen : (leBytes 2 slot ++ [count]).length = 3 := rfl
  rw [captureReadOp, if_neg (by simp [hlen]), hcount, if_neg (by omega), hstart]
  rfl

theorem captureReadOp_badValue {slot : Nat} {count : Byte} (h : count.toNat = 0 ∨ 28 < count.toNat) (s : State) :
    captureReadOp (leBytes 2 slot ++ [count]) s = (s, .err .badValue) := by
  have hcount : u8At (leBytes 2 slot ++ [count]) 2 = count.toNat := rfl
  have hlen : (leBytes 2 slot ++ [count]).length = 3 := rfl
  rw [captureReadOp, if_neg (by simp [hlen]), hcount, if_pos h]

/-! ## The reads of an empty body -/

theorem mixModeOp_read (s : State) :
    mixModeOp [] s = (s, .ok (leBytes 1 s.mixer.mode.code ++ modeField s.mixer.pendingMode)) := by
  rw [← optBytes_modeField]
  rfl

theorem mixBalanceOp_read (s : State) : mixBalanceOp [] s =
    (s, .ok (pendingField s.mixer.pendingBal ++ [0] ++ leBytes 2 s.mixer.bal ++ fadeField s.mixer.fade)) := by
  rw [← pendingBalBytes_eq, ← fadeBytes_eq]
  rfl

/-- An OK reply to a Player message begins with the state and the position (R131). -/
theorem completed_playerOk {code tag : Byte} {op : MsgOp} {data : List Byte} {s : State} (hw : windowOpen s = true)
    (hop : op s = playerOk data s) : (.next (completeMessage code tag op s) : Result) = .next (played code tag data s) :=
  completed hw hop

theorem sectionWriteOp_read (s : State) : sectionWriteOp [] s = playerOk (sectionData s.player) s := by
  unfold sectionData
  rw [← sectionBytes_eq, ← sectionBytes_eq]
  rfl

theorem partModeOp_read (s : State) : partModeOp [] s =
    playerOk ((List.range 4).flatMap (fun n => partField (partAt s.player n))) s := by
  rw [← partsReply_eq]
  rfl

/-- Settles O51: one equation of a read per clause, each completed by its reply. -/
theorem reportsReplyAndKeepState : Obligations.ReportsReplyAndKeepState := by
  refine ⟨fun tag mode start count slot s hw hslot => ?tables, fun tag s hw => ?emptyBodies⟩
  case tables =>
    exact ⟨completed hw rfl, fun hfits => completed hw (gainTableReadOp_ok hfits s),
      fun hfits => completed hw (gainTableReadOp_badValue hfits s),
      fun h1 h28 => completed hw (captureReadOp_ok hslot h1 h28 s), fun h => completed hw (captureReadOp_badValue h s),
      completed hw rfl⟩
  case emptyBodies =>
    exact ⟨completed hw (mixModeOp_read s), completed hw (mixBalanceOp_read s), completed hw rfl,
      completed_playerOk hw (sectionWriteOp_read s), completed_playerOk hw rfl, completed_playerOk hw (partModeOp_read s),
      completed_playerOk hw rfl, completed_playerOk hw rfl⟩

end Sys2Proof.Proofs.Reports

/-! PROOFS. Chapter 07: what every step keeps of event memory (R114). First the work that leaves event memory alone, one equation
per operation; then the work of the recorder and of the live records it observes, which keeps the canonical form. -/

namespace Sys2Proof.Proofs.EventMemory

open Sys2Proof.Machine
open Sys2Proof.Proofs.MixerBounds (exec_eq_dispatch)

/-! ## Event Queue and follow mode -/

@[simp] theorem presentPlayback_memory (r : EventRecord) (s : State) : (presentPlayback r s).1.memory = s.memory := by
  unfold presentPlayback; split <;> simp

@[simp] theorem followMatch_memory (part key : Nat) (s : State) : (followMatch part key s).memory = s.memory := by
  unfold followMatch
  dsimp only
  split
  · rfl
  · split_ifs <;> simp

@[simp] theorem followMiss_memory (ev : EventRecord) (s : State) : (followMiss ev s).memory = s.memory := by
  simp [followMiss]

@[simp] theorem followObserve_memory (ev : EventRecord) (s : State) : (followObserve ev s).memory = s.memory := by
  unfold followObserve
  split
  · split <;> simp
  · rfl

@[simp] theorem refuseLive_memory (ev : EventRecord) (s : State) : (refuseLive ev s).memory = s.memory := by
  unfold refuseLive raiseOverrun
  dsimp only
  split
  · split <;> simp
  · rfl

/-! ## Calibration Unit, Fault List and Settings Store -/

@[simp] theorem listFault_memory (k : KeyIdx) (s : State) : (listFault k s).memory = s.memory := by
  unfold listFault; split <;> rfl

@[simp] theorem clearFaults_memory (ks : List KeyIdx) (s : State) : (clearFaults ks s).memory = s.memory := by
  have hkeys : (ks.foldl (fun t k => clearFault k t) s).memory = s.memory :=
    List.foldlRecOn (motive := fun (t : State) => t.memory = s.memory) ks _ rfl
      fun t ht k _ => by unfold clearFault; split <;> simp [ht]
  unfold clearFaults settleOverflow
  split <;> simp [hkeys]

@[simp] theorem calJobTick_memory (s : State) : (calJobTick s).memory = s.memory := by
  unfold calJobTick endJob
  dsimp only
  split_ifs <;> simp [updateKeys]

@[simp] theorem completeSave_memory (readBackMatches : Bool) (s : State) :
    (completeSave readBackMatches s).memory = s.memory := by
  simp [completeSave]

@[simp] theorem storeTick_memory (done readBackMatches : Bool) (s : State) :
    (storeTick done readBackMatches s).memory = s.memory := by
  unfold storeTick
  dsimp only
  split_ifs <;> simp

/-! ## Scan Receiver and Message Unit -/

@[simp] theorem settleScanBad_memory (s : State) : (settleScanBad s).memory = s.memory := by
  unfold settleScanBad raiseScanLost
  dsimp only
  split <;> simp

@[simp] theorem scanTick_memory (s : State) : (scanTick s).memory = s.memory := by
  unfold scanTick
  dsimp only
  split <;> simp

@[simp] theorem linkTick_memory (s : State) : (linkTick s).memory = s.memory := by
  unfold linkTick settleLinkBad; split <;> simp

@[simp] theorem settleLinkGood_memory (s : State) : (settleLinkGood s).memory = s.memory := by
  unfold settleLinkGood
  split
  · simp
  · split <;> simp

@[simp] theorem refuseMessage_memory (bytes : List Byte) (code : ErrorCode) (s : State) :
    (refuseMessage bytes code s).memory = s.memory := by
  unfold refuseMessage
  dsimp only
  split <;> simp

@[simp] theorem sendUpstream_memory (s : State) : (sendUpstream s).memory = s.memory := by
  unfold sendUpstream chooseSegment; split <;> simp

/-! ## Rail Controller -/

@[simp] theorem railDone_memory (result : Nat) (state : RailState) (pauses moving paused : Nat) (s : State) :
    (railDone result state pauses moving paused s).memory = s.memory := by
  simp [railDone]

@[simp] theorem enterRailFault_memory (reason : RailReason) (s : State) : (enterRailFault reason s).memory = s.memory := by
  simp [enterRailFault]

@[simp] theorem arrive_memory (target : RailEnd) (s : State) : (arrive target s).memory = s.memory := by
  unfold arrive
  dsimp only
  split <;> simp [enterWaiting]

@[simp] theorem railApply_memory (ev : RailEvent) (s : State) : (railApply ev s).memory = s.memory := by
  cases ev with
  | conflict | stall | blocked => exact enterRailFault_memory _ _
  | displaced => simp [railApply, displace]
  | arrival => exact arrive_memory _ s
  | clearTimeout => simp [railApply, expireWait]
  | start | waitOn | pause | driveOn | resume | pauseOn | still => rfl

@[simp] theorem resetDriver_memory (s : State) : (resetDriver s).memory = s.memory := by
  unfold resetDriver; split <;> rfl

@[simp] theorem railTick_memory (sw : Switches) (s : State) : (railTick sw s).memory = s.memory := by
  unfold railTick railPrepare
  dsimp only
  split <;> simp

@[simp] theorem railEarly_memory (ev : RailEvent) (sw : Switches) (s : State) : (railEarly ev sw s).memory = s.memory := by
  simp [railEarly]

@[simp] theorem railEventStep_memory (ev : RailEvent) (sw : Switches) (s : State) :
    (railEventStep ev sw s).memory = s.memory := by
  unfold railEventStep; split <;> simp

@[simp] theorem railScanEval_memory (s : State) : (railScanEval s).memory = s.memory := by
  unfold railScanEval
  dsimp only
  split <;> rfl

@[simp] theorem moveTo_memory (target : RailEnd) (s : State) : (moveTo target s).1.memory = s.memory := by
  unfold moveTo
  split
  case h_3 | h_4 => rfl
  case h_5 => split_ifs <;> simp [cancelMove]
  all_goals split <;> rfl

/-! ## Mixer and Player -/

@[simp] theorem startClick_memory (beat : Nat) (s : State) : (startClick beat s).memory = s.memory := by
  unfold startClick; split <;> rfl

@[simp] theorem handCause_memory (cause : BalanceCause) (s : State) : (handCause cause s).memory = s.memory := by
  unfold handCause; split <;> rfl

@[simp] theorem recorderAdvance_memory (amount : Nat) (s : State) : (recorderAdvance amount s).memory = s.memory := by
  unfold recorderAdvance; split <;> rfl

@[simp] theorem crossBeat_memory (m : Nat) (s : State) : (crossBeat m s).memory = s.memory := by
  unfold crossBeat
  dsimp only
  split <;> simp

@[simp] theorem advanceTo_memory (q : Nat) (s : State) : (advanceTo q s).memory = s.memory := by
  unfold advanceTo
  dsimp only
  split <;> simp

@[simp] theorem presentFlushItem_memory (i : FlushItem) (s : State) : (presentFlushItem i s).1.memory = s.memory := by
  cases i with
  | noteOff q => unfold presentFlushItem presentNoteOff; dsimp only; split <;> simp
  | damper n => unfold presentFlushItem presentDamperZero; dsimp only; split <;> simp
  | guideOff q => unfold presentFlushItem presentGuideOff; dsimp only; split <;> simp

@[simp] theorem holdFrame_memory (slot : Nat) (s : State) : (holdFrame slot s).memory = s.memory := by
  unfold holdFrame
  dsimp only
  split <;> simp

@[simp] theorem enterStopped_memory (why : StopReason) (s : State) : (enterStopped why s).memory = s.memory := by
  simp [enterStopped]

@[simp] theorem presentGuideOn_memory (n : ChordNote) (s : State) : (presentGuideOn n s).memory = s.memory := by
  unfold presentGuideOn
  dsimp only
  split <;> simp

@[simp] theorem pruneExpected_memory (s : State) : (pruneExpected s).memory = s.memory := by simp [pruneExpected]

@[simp] theorem cleanupStep_memory (s : State) : (cleanupStep s).2.memory = s.memory := by
  unfold cleanupStep
  split
  · dsimp only
    split <;> simp
  · rfl

@[simp] theorem runCleanup_memory (n : Nat) (s : State) : (runCleanup n s).memory = s.memory := by
  induction n generalizing s with
  | zero => rfl
  | succ n ih =>
    unfold runCleanup
    split
    · simp [ih]
    · simp

@[simp] theorem announce_memory (s : State) : (announce s).memory = s.memory := startClick_memory 1 s

@[simp] theorem beginLocate_memory (bar : Nat) (s : State) : (beginLocate bar s).memory = s.memory := rfl

@[simp] theorem searchStep_memory (s : State) : (searchStep s).memory = s.memory := by
  unfold searchStep
  split
  · rfl
  · split
    · exact announce_memory _
    · rfl

@[simp] theorem flushDecision_memory (s : State) : (flushDecision s).memory = s.memory := by
  have hfree : (beginFreePlay s).memory = s.memory := announce_memory _
  unfold flushDecision
  dsimp only
  split
  · split_ifs <;> simp [hfree, repeatPass, applyAtDecision]
  · split <;> simp [applyAtDecision]
  · simp
  · rfl
  · rfl

@[simp] theorem flushStep_memory (s : State) : (flushStep s).2.memory = s.memory := by
  unfold flushStep; split <;> simp

@[simp] theorem finishRelease_memory (newPos : Nat) (s : State) : (finishRelease newPos s).2.memory = s.memory := by
  unfold finishRelease
  dsimp only
  split_ifs <;> simp [endPass, beginFlush]

@[simp] theorem releaseStep_memory (newPos : Nat) (s : State) : (releaseStep newPos s).2.memory = s.memory := by
  unfold releaseStep
  split
  · split
    · rfl
    · simp [gatherChord]
    · dsimp only
      split <;> simp [pastRecord, holdRecord]
  · exact finishRelease_memory newPos s

@[simp] theorem playerStep_memory (w : PlayerWork) (s : State) : (playerStep w s).2.memory = s.memory := by
  cases w with
  | cue active => simp only [playerStep]; split <;> rfl
  | settings began => rfl
  | body began =>
    simp only [playerStep, bodyStep]
    split
    · split <;> simp
    all_goals rfl
  | cleanup => exact cleanupStep_memory s
  | advance => rfl
  | release newPos => exact releaseStep_memory newPos s
  | guideOns notes =>
    cases notes with
    | nil => rfl
    | cons n ns => exact presentGuideOn_memory n s
  | flush => exact flushStep_memory s
  | done => rfl

@[simp] theorem playerRun_memory (n : Nat) (w : PlayerWork) (s : State) : (playerRun n w s).memory = s.memory := by
  induction n generalizing w s with
  | zero => rfl
  | succ n ih =>
    unfold playerRun
    split
    · rfl
    · simp [ih]

@[simp] theorem runFlush_memory (s : State) : (runFlush s).memory = s.memory := playerRun_memory _ .flush s

@[simp] theorem stopNow_memory (s : State) : (stopNow s).memory = s.memory := by
  unfold stopNow; split <;> simp [beginFlush]

theorem locateNow_memory {bar : Nat} {s t : State} (h : locateNow bar s = some t) : t.memory = s.memory := by
  unfold locateNow at h
  split at h
  case h_6 =>
    split at h
    · contradiction
    · cases h; rfl
  all_goals cases h; simp [beginFlush]

/-! ## Messages that leave event memory alone (R171) -/

@[simp] theorem keyCalReadOp_memory (b : List Byte) (s : State) : (keyCalReadOp b s).1.memory = s.memory := by
  unfold keyCalReadOp
  split_ifs <;> rfl

@[simp] theorem keyStateReadOp_memory (b : List Byte) (s : State) : (keyStateReadOp b s).1.memory = s.memory := by
  unfold keyStateReadOp
  split_ifs <;> rfl

@[simp] theorem curveReadOp_memory (b : List Byte) (s : State) : (curveReadOp b s).1.memory = s.memory := by
  unfold curveReadOp
  split_ifs <;> rfl

@[simp] theorem curveWriteOp_memory (b : List Byte) (s : State) : (curveWriteOp b s).1.memory = s.memory := by
  unfold curveWriteOp
  dsimp only
  split_ifs <;> rfl

@[simp] theorem trackConfigOp_memory (b : List Byte) (s : State) : (trackConfigOp b s).1.memory = s.memory := by
  unfold trackConfigOp
  split_ifs <;> rfl

@[simp] theorem calibrateRestOp_memory (b : List Byte) (s : State) : (calibrateRestOp b s).1.memory = s.memory := by
  unfold calibrateRestOp
  dsimp only
  split_ifs <;> rfl

@[simp] theorem faultListReadOp_memory (b : List Byte) (s : State) : (faultListReadOp b s).1.memory = s.memory := by
  unfold faultListReadOp
  split_ifs <;> rfl

@[simp] theorem nvSaveOp_memory (b : List Byte) (s : State) : (nvSaveOp b s).1.memory = s.memory := by
  unfold nvSaveOp
  split_ifs <;> rfl

@[simp] theorem nvRestoreOp_memory (b : List Byte) (s : State) : (nvRestoreOp b s).1.memory = s.memory := by
  unfold nvRestoreOp
  split_ifs <;> rfl

@[simp] theorem railConfigOp_memory (b : List Byte) (s : State) : (railConfigOp b s).1.memory = s.memory := by
  unfold railConfigOp
  split_ifs <;> rfl

@[simp] theorem railStatusOp_memory (b : List Byte) (s : State) : (railStatusOp b s).1.memory = s.memory := by
  unfold railStatusOp
  split <;> rfl

@[simp] theorem railMonitorOp_memory (b : List Byte) (s : State) : (railMonitorOp b s).1.memory = s.memory := by
  unfold railMonitorOp
  split_ifs <;> rfl

@[simp] theorem gainTableWriteOp_memory (b : List Byte) (s : State) : (gainTableWriteOp b s).1.memory = s.memory := by
  unfold gainTableWriteOp
  dsimp only
  split_ifs <;> rfl

@[simp] theorem gainTableReadOp_memory (b : List Byte) (s : State) : (gainTableReadOp b s).1.memory = s.memory := by
  unfold gainTableReadOp
  split_ifs <;> rfl

@[simp] theorem volumeSetOp_memory (b : List Byte) (s : State) : (volumeSetOp b s).1.memory = s.memory := by
  unfold volumeSetOp
  split_ifs <;> rfl

@[simp] theorem mixStatusOp_memory (b : List Byte) (s : State) : (mixStatusOp b s).1.memory = s.memory := by
  unfold mixStatusOp
  split_ifs <;> rfl

@[simp] theorem captureReadOp_memory (b : List Byte) (s : State) : (captureReadOp b s).1.memory = s.memory := by
  unfold captureReadOp
  split_ifs <;> rfl

@[simp] theorem statusOp_memory (b : List Byte) (s : State) : (statusOp b s).1.memory = s.memory := by
  unfold statusOp
  split_ifs <;> rfl

@[simp] theorem identifyOp_memory (b : List Byte) (s : State) : (identifyOp b s).1.memory = s.memory := by
  unfold identifyOp
  split_ifs <;> rfl

@[simp] theorem resetOp_memory (b : List Byte) (s : State) : (resetOp b s).1.memory = s.memory := by
  unfold resetOp
  split_ifs <;> rfl

@[simp] theorem sectionWriteOp_memory (b : List Byte) (s : State) : (sectionWriteOp b s).1.memory = s.memory := by
  unfold sectionWriteOp
  dsimp only
  split_ifs <;> rfl

@[simp] theorem sectionApplyOp_memory (b : List Byte) (s : State) : (sectionApplyOp b s).1.memory = s.memory := by
  unfold sectionApplyOp
  dsimp only
  split_ifs <;> rfl

@[simp] theorem playStartOp_memory (b : List Byte) (s : State) : (playStartOp b s).1.memory = s.memory := by
  unfold playStartOp
  split_ifs <;> rfl

@[simp] theorem playRateOp_memory (b : List Byte) (s : State) : (playRateOp b s).1.memory = s.memory := by
  unfold playRateOp
  dsimp only
  split_ifs <;> rfl

@[simp] theorem partModeOp_memory (b : List Byte) (s : State) : (partModeOp b s).1.memory = s.memory := by
  unfold partModeOp
  dsimp only
  split_ifs <;> rfl

@[simp] theorem followConfigOp_memory (b : List Byte) (s : State) : (followConfigOp b s).1.memory = s.memory := by
  unfold followConfigOp
  dsimp only
  split_ifs <;> rfl

@[simp] theorem metronomeOp_memory (b : List Byte) (s : State) : (metronomeOp b s).1.memory = s.memory := by
  unfold metronomeOp
  split_ifs <;> rfl

@[simp] theorem playStopOp_memory (b : List Byte) (s : State) : (playStopOp b s).1.memory = s.memory := by
  unfold playStopOp
  split_ifs <;> simp [playerOk]

@[simp] theorem keyCalWriteOp_memory (b : List Byte) (s : State) : (keyCalWriteOp b s).1.memory = s.memory := by
  unfold keyCalWriteOp
  split
  · rfl
  · split
    · rfl
    · dsimp only
      split_ifs <;> rfl

@[simp] theorem pedalCalWriteOp_memory (b : List Byte) (s : State) : (pedalCalWriteOp b s).1.memory = s.memory := by
  unfold pedalCalWriteOp
  split
  · rfl
  · split
    · rfl
    · dsimp only
      split <;> rfl

@[simp] theorem pedalCalReadOp_memory (b : List Byte) (s : State) : (pedalCalReadOp b s).1.memory = s.memory := by
  unfold pedalCalReadOp
  split
  · rfl
  · split <;> rfl

@[simp] theorem faultClearOp_memory (b : List Byte) (s : State) : (faultClearOp b s).1.memory = s.memory := by
  unfold faultClearOp
  split
  · rfl
  · split
    · rfl
    · exact clearFaults_memory _ s

@[simp] theorem railMoveOp_memory (b : List Byte) (s : State) : (railMoveOp b s).1.memory = s.memory := by
  unfold railMoveOp
  split
  · rfl
  · split
    · rfl
    · exact moveTo_memory _ s

@[simp] theorem mixModeOp_memory (b : List Byte) (s : State) : (mixModeOp b s).1.memory = s.memory := by
  unfold mixModeOp
  split_ifs
  · rfl
  · split <;> rfl
  · rfl

@[simp] theorem mixBalanceOp_memory (b : List Byte) (s : State) : (mixBalanceOp b s).1.memory = s.memory := by
  unfold mixBalanceOp
  split_ifs
  · rfl
  · split <;> rfl
  · rfl

@[simp] theorem playLocateOp_memory (b : List Byte) (s : State) : (playLocateOp b s).1.memory = s.memory := by
  unfold playLocateOp
  split_ifs
  · rfl
  · rfl
  · split
    · rfl
    next hlocate => exact locateNow_memory hlocate

/-! ## Messages that write event memory (R117, R118, R121, R129, R130) -/

theorem takeHeaderWriteOp_wf {b : List Byte} {s : State} (h : Memory.wf s.memory = true) :
    Memory.wf (takeHeaderWriteOp b s).1.memory = true := by
  unfold takeHeaderWriteOp
  dsimp only
  split_ifs
  · exact h
  · exact h
  · exact h
  · exact setTakeHeader_wf h
  · exact h

theorem takeWriteOp_wf {b : List Byte} {s : State} (h : Memory.wf s.memory = true) :
    Memory.wf (takeWriteOp b s).1.memory = true := by
  unfold takeWriteOp
  split_ifs
  case neg =>
    split
    · exact h
    · exact setTake_wf h (storeRecords_wf ((memory_wf_iff _).1 h).1)
  all_goals exact h

theorem recordStartOp_wf {b : List Byte} {s : State} (h : Memory.wf s.memory = true) :
    Memory.wf (recordStartOp b s).1.memory = true := by
  unfold recordStartOp
  dsimp only
  split_ifs
  · exact h
  · exact h
  · exact h
  · exact startCapture_wf h
  · exact h

theorem recordStopOp_wf {b : List Byte} {s : State} (h : Memory.wf s.memory = true) :
    Memory.wf (recordStopOp b s).1.memory = true := by
  unfold recordStopOp
  split
  · exact h
  · split
    · exact h
    · exact h
    · exact closeCapture_wf h

theorem promoteOp_wf {b : List Byte} {s : State} (h : Memory.wf s.memory = true) :
    Memory.wf (promoteOp b s).1.memory = true := by
  unfold promoteOp
  dsimp only
  split_ifs
  case neg => exact promoteMemory_wf h
  all_goals exact h

/-- Every message's operation keeps the canonical form: TAKE_HEADER_WRITE, TAKE_WRITE, RECORD_START, RECORD_STOP and PROMOTE,
at places 24 to 29 of the message table, by their own lemmas; the others leave event memory alone. -/
theorem messageOp_wf {code : Nat} {op : List Byte → MsgOp} (h : messageOp code = some op) {b : List Byte} {s : State}
    (hs : Memory.wf s.memory = true) : Memory.wf (op b s).1.memory = true := by
  unfold messageOp at h
  split at h
  case h_24 => cases h; exact takeHeaderWriteOp_wf hs
  case h_25 => cases h; exact takeWriteOp_wf hs
  case h_27 => cases h; exact recordStartOp_wf hs
  case h_28 => cases h; exact recordStopOp_wf hs
  case h_29 => cases h; exact promoteOp_wf hs
  case h_42 => contradiction
  all_goals cases h; simpa using hs

theorem dispatch_wf {code tag : Byte} {body : List Byte} {s : State} (h : Memory.wf s.memory = true) :
    Memory.wf (dispatch code tag body s).memory = true := by
  unfold dispatch completeMessage
  split_ifs
  · exact h
  · exact h
  · rw [appendReply_memory]
    cases hop : messageOp code.toNat with
    | none => exact h
    | some op => exact messageOp_wf hop h

/-! ## Live records on their way to the recorder -/

theorem presentLive_wf {ev : EventRecord} {s : State} (h : Memory.wf s.memory = true) :
    Memory.wf (presentLive ev s).1.memory = true := by
  unfold presentLive observeLive
  split
  · simpa using captureObserve_wf (s := enqueue ev s) h
  · simpa using h

theorem attemptNoteOn_wf {k : KeyIdx} {velocity offset : Nat} {isRepeat : Bool} {s : State}
    (h : Memory.wf s.memory = true) : Memory.wf (attemptNoteOn k velocity offset isRepeat s).memory = true := by
  simpa [attemptNoteOn] using presentLive_wf h

theorem attemptNoteOff_wf {k : KeyIdx} {s : State} (h : Memory.wf s.memory = true) :
    Memory.wf (attemptNoteOff k s).memory = true := by
  simpa [attemptNoteOff] using presentLive_wf h

/-! ## Key Tracker -/

theorem enterRest_wf {k : KeyIdx} {s : State} (h : Memory.wf s.memory = true) : Memory.wf (enterRest k s).memory = true := by
  unfold enterRest
  dsimp only
  split
  · split
    · simpa using h
    · exact attemptNoteOff_wf (by simpa using h)
  · split
    · simpa using h
    · exact attemptNoteOff_wf (by simpa using h)
  all_goals simpa using h

theorem strike_wf {k : KeyIdx} {p : SamplePair} {s : State} (h : Memory.wf s.memory = true) :
    Memory.wf (strike k p s).memory = true := by
  unfold strike
  dsimp only
  split <;> simp [attemptNoteOn_wf, h]

theorem restrike_wf {k : KeyIdx} {p : SamplePair} {s : State} (h : Memory.wf s.memory = true) :
    Memory.wf (restrike k p s).memory = true := by
  unfold restrike
  dsimp only
  split <;> simp [attemptNoteOn_wf, h]

theorem motionStep_wf {k : KeyIdx} {p : SamplePair} {s : State} (h : Memory.wf s.memory = true) :
    Memory.wf (motionStep k p s).memory = true := by
  unfold motionStep
  dsimp only
  split
  case h_7 => exact h
  all_goals split_ifs <;> simp [enterRest_wf, strike_wf, restrike_wf, h]

theorem goodSample_wf {k : KeyIdx} {raw : Nat} {s : State} (h : Memory.wf s.memory = true) :
    Memory.wf (goodSample k raw s).memory = true := by
  unfold goodSample
  dsimp only
  split <;> simp [settleSample, firstSample, motionStep_wf, h]

theorem faultSettleNote_wf {k : KeyIdx} {s : State} (h : Memory.wf s.memory = true) :
    Memory.wf (faultSettleNote k s).memory = true := by
  unfold faultSettleNote; split <;> simp [attemptNoteOff_wf, h]

theorem faultSample_wf {k : KeyIdx} {raw : Nat} {s : State} (h : Memory.wf s.memory = true) :
    Memory.wf (faultSample k raw s).memory = true := by
  unfold faultSample
  dsimp only
  split <;> simp [enterFault, faultSettleNote_wf, h]

theorem keySample_wf {k : KeyIdx} {raw : Nat} {s : State} (h : Memory.wf s.memory = true) :
    Memory.wf (keySample k raw s).memory = true := by
  unfold keySample
  dsimp only
  split_ifs <;> simp [faultSample_wf, goodSample_wf, h]

theorem retryOwed_wf {k : KeyIdx} {s : State} (h : Memory.wf s.memory = true) : Memory.wf (retryOwed k s).memory = true := by
  unfold retryOwed; split <;> simp [attemptNoteOff_wf, h]

theorem retryAllOwed_wf {s : State} (h : Memory.wf s.memory = true) : Memory.wf (retryAllOwed s).memory = true :=
  List.foldlRecOn (motive := fun (t : State) => Memory.wf t.memory = true) allKeys _ h fun _ ht _ _ => retryOwed_wf ht

/-! ## Pedal Unit -/

theorem attemptPedal_wf {p : PedalIdx} {s : State} (h : Memory.wf s.memory = true) :
    Memory.wf (attemptPedal p s).memory = true := by
  unfold attemptPedal
  dsimp only
  split <;> simp [presentLive_wf, h]

theorem considerPedal_wf {p : PedalIdx} {s : State} (h : Memory.wf s.memory = true) :
    Memory.wf (considerPedal p s).memory = true := by
  unfold considerPedal
  dsimp only
  split_ifs <;> simp [attemptPedal_wf, h]

theorem releaseKeys_wf {ks : List KeyIdx} {s : State} (h : Memory.wf s.memory = true) :
    Memory.wf (releaseKeys ks s).memory = true :=
  List.foldlRecOn (motive := fun (t : State) => Memory.wf t.memory = true) ks _ h fun t ht k _ => by
    unfold releaseRequest; split <;> simp [attemptNoteOff_wf, ht]

theorem sostenutoRelease_wf {s : State} (h : Memory.wf s.memory = true) :
    Memory.wf (sostenutoRelease s).memory = true := by
  unfold sostenutoRelease clearSostenuto; split <;> simp [releaseKeys_wf, h]

@[simp] theorem updateSostenuto_memory (s : State) : (updateSostenuto s).memory = s.memory := by
  unfold updateSostenuto
  dsimp only
  split <;> rfl

theorem updateDamper_wf {s : State} (h : Memory.wf s.memory = true) : Memory.wf (updateDamper s).memory = true := by
  unfold updateDamper damperRelease
  dsimp only
  split <;> simp [releaseKeys_wf, h]

theorem takePedal_wf {raw : Nat} {p : PedalIdx} {s : State} (h : Memory.wf s.memory = true) :
    Memory.wf (takePedal raw p s).memory = true := considerPedal_wf h

theorem pedalSamples_wf {words : List ScanWord} {s : State} (h : Memory.wf s.memory = true) :
    Memory.wf (pedalSamples words s).memory = true := by
  have hstepped := updateDamper_wf (s := updateSostenuto (takePedal (sampleAt words 90) 2
    (takePedal (sampleAt words 89) 1 (takePedal (sampleAt words 88) 0 s))))
    (by simpa using takePedal_wf (takePedal_wf (takePedal_wf h)))
  unfold pedalSamples
  dsimp only
  split
  · exact sostenutoRelease_wf hstepped
  · exact hstepped

/-! ## Scan frames and downstream frames -/

theorem midStep_wf {mid : Option MidMessage} {n : Nat} {s : State} (h : Memory.wf s.memory = true) :
    Memory.wf (midStep mid n s).memory = true := by
  unfold midStep
  split
  · exact h
  · split_ifs
    · exact dispatch_wf h
    · unfold midCurve curvePart
      split_ifs <;> exact h
    · exact h

theorem keySamples_wf {mid : Option MidMessage} {words : List ScanWord} {s : State} (h : Memory.wf s.memory = true) :
    Memory.wf (keySamples (midStep mid) words s).memory = true := by
  unfold keySamples
  apply midStep_wf
  exact List.foldlRecOn (motive := fun (t : State) => Memory.wf t.memory = true) allKeys _ h
    fun t ht k _ => keySample_wf (s := midStep mid k.val t) (midStep_wf ht)

theorem takeSamples_wf {words : List ScanWord} {mid : Option MidMessage} {s : State} (h : Memory.wf s.memory = true) :
    Memory.wf (takeSamples words mid s).memory = true := by
  unfold takeSamples
  rw [railScanEval_memory]
  apply pedalSamples_wf
  rw [recomputeSets_memory]
  apply keySamples_wf
  exact h

theorem settleScanGood_wf {words : List ScanWord} {mid : Option MidMessage} {s : State} (h : Memory.wf s.memory = true) :
    Memory.wf (settleScanGood words mid s).memory = true := by
  unfold settleScanGood
  split
  · exact takeSamples_wf h
  · split
    · exact takeSamples_wf (by simpa using h)
    · exact h

theorem receiveScan_wf {words : List ScanWord} {mid : Option MidMessage} {s : State} (h : Memory.wf s.memory = true) :
    Memory.wf (receiveScan words mid s).memory = true := by
  unfold receiveScan
  split
  · exact h
  · exact h
  · exact h
  · split
    · simpa using h
    · exact h
    · exact settleScanGood_wf h

theorem finishMessage_wf {n : Nat} {bytes : List Byte} {s : State} (h : Memory.wf s.memory = true) :
    Memory.wf (finishMessage n bytes s).memory = true := by
  unfold finishMessage
  dsimp only
  split
  · exact dispatch_wf h
  · simpa using h

theorem beginMessage_wf {isLast : Bool} {payload : List Byte} {s : State} (h : Memory.wf s.memory = true) :
    Memory.wf (beginMessage isLast payload s).memory = true := by
  have hbegun : Memory.wf (match s.msg.assembler with
      | .assembling _ bytes => refuseMessage bytes .framing s
      | .idle | .discarding => s).memory = true := by
    split
    · simpa using h
    all_goals exact h
  unfold beginMessage
  dsimp only
  split
  · exact finishMessage_wf hbegun
  · exact hbegun

theorem continueMessage_wf {isLast : Bool} {payload : List Byte} {s : State} (h : Memory.wf s.memory = true) :
    Memory.wf (continueMessage isLast payload s).memory = true := by
  unfold continueMessage
  split
  · exact h
  · exact h
  · split_ifs
    · exact finishMessage_wf h
    · simpa using h
    · exact h

theorem takeSegment_wf {segment : List Byte} {s : State} (h : Memory.wf s.memory = true) :
    Memory.wf (takeSegment segment s).memory = true := by
  unfold takeSegment
  dsimp only
  split
  · exact h
  · split
    · exact beginMessage_wf h
    · exact continueMessage_wf h

theorem acceptDownstream_wf {frame : List Byte} {s : State} (h : Memory.wf s.memory = true) :
    Memory.wf (acceptDownstream frame s).memory = true := by
  unfold acceptDownstream
  dsimp only
  split
  · exact takeSegment_wf (by simpa using h)
  · simpa using h

theorem receiveDownstream_wf {frame : List Byte} {s : State} (h : Memory.wf s.memory = true) :
    Memory.wf (receiveDownstream frame s).memory = true := by
  unfold receiveDownstream
  split
  · exact h
  · exact h
  · exact h
  · split
    · exact acceptDownstream_wf h
    · exact h

/-! ## Resets and the frame tick (R114, R166) -/

theorem pinReset_wf (sw : Switches) (s : State) : Memory.wf (pinReset sw s).memory = true := pinResetMemory_wf

theorem softReset_wf {sw : Switches} {s : State} (h : Memory.wf s.memory = true) :
    Memory.wf (softReset sw s).memory = true := softResetMemory_wf h

theorem recorderCue_wf {cue : Bool} {s : State} (h : Memory.wf s.memory = true) :
    Memory.wf (recorderCue cue s).memory = true := by
  unfold recorderCue
  split
  · exact startCapture_wf h
  · exact h

theorem recorderSpacers_wf {s : State} (h : Memory.wf s.memory = true) :
    Memory.wf (recorderSpacers s).memory = true := by
  unfold recorderSpacers
  split
  · exact tickSpacers_wf h
  · exact h

/-- Every work of a tick keeps the canonical form; only the recorder's, and those that present live records, write. -/
theorem runWork_wf {w : Work} {s : State} (h : Memory.wf s.memory = true) : Memory.wf (runWork w s).2.memory = true := by
  cases w with
  | scan => simpa [runWork] using h
  | scanLost => simpa [runWork, raiseScanLost] using h
  | link => simpa [runWork] using h
  | owed k => exact retryOwed_wf h
  | pedal p => exact considerPedal_wf h
  | store done readBackMatches => simpa [runWork] using h
  | calJob => simpa [runWork] using h
  | railSwitches sw =>
    unfold runWork
    dsimp only
    split
    · exact h
    · simpa using h
  | rail sw => simpa [runWork] using h
  | recorderCue cue => exact recorderCue_wf h
  | spacers => exact recorderSpacers_wf h
  | player p => simpa [runWork] using h
  | mixTrigger => simpa [runWork] using h
  | upstream => simpa [runWork] using h
  | keyTimers | drain | pedalTimers | railEvaluate | tone | mixMode | fade | gateGain | volume | weights | samples => exact h

theorem runThreads_wf {n : Nat} {choices : List Nat} {ts : List Thread} {s : State} (h : Memory.wf s.memory = true) :
    Memory.wf (runThreads n choices ts s).memory = true := by
  induction n generalizing choices ts s with
  | zero => exact h
  | succ n ih =>
    unfold runThreads
    dsimp only
    split
    · exact h
    · exact ih (runWork_wf h)

/-! ## Every command -/

/-- A command that does its work where it is due. -/
theorem ite_wf {c : Prop} [Decidable c] {s t : State} (hs : Memory.wf s.memory = true) (ht : Memory.wf t.memory = true) :
    Memory.wf (if c then t else s).memory = true := by
  split
  · exact ht
  · exact hs

/-- Every command keeps the canonical form: the messages by the dispatch, the events one by one. -/
theorem exec_wf {i : Instr} {s t : State} (h : exec i s = .next t) (hs : Memory.wf s.memory = true) :
    Memory.wf t.memory = true := by
  cases hparts : messageParts i with
  | some parts =>
    obtain ⟨code, tag, body⟩ := parts
    rw [exec_eq_dispatch hparts] at h
    cases h
    exact dispatch_wf hs
  | none =>
    cases i with
    | pinReset sw => cases h; exact pinReset_wf sw s
    | softReset sw => cases h; exact ite_wf hs (softReset_wf hs)
    | frameTick inp =>
      cases h
      split
      · exact softReset_wf hs
      · exact runThreads_wf hs
    | scanFrame arrival => cases h; exact receiveScan_wf hs
    | downstreamFrame bytes => cases h; exact receiveDownstream_wf hs
    | scanLocked arrival => cases h; exact ite_wf hs (settleScanGood_wf hs)
    | linkRestored bytes => cases h; exact ite_wf hs (acceptDownstream_wf hs)
    | keyFault k raw => cases h; exact ite_wf hs (by simpa using keySample_wf hs)
    | pedalIntervalExpiry p => cases h; exact ite_wf hs (considerPedal_wf hs)
    | pedalEventRetry p => cases h; exact ite_wf hs (attemptPedal_wf hs)
    | noteOffRetry =>
      have ht : retryAllOwed s = t := Host.Outcome.next.inj h
      exact ht ▸ retryAllOwed_wf hs
    | recordCueStart => cases h; exact recorderCue_wf hs
    | recordFirstKeyStart note => cases h; exact ite_wf hs (captureObserve_wf hs)
    | linkDown | restStep | calKeyComplete | flightTimerExpiry => cases h; exact ite_wf hs hs
    | scanLost | calJobTimeout | nvDone | locateEnd | endOfPass | endOfTake | flushEnd | heldRecordRetry | partCleanup | lag =>
      cases h
      exact ite_wf hs (by simpa using hs)
    | clearTimeout | railResume | railBlocked | railStall | railArrival | railDisplaced | switchConflict | playCueStart
    | balanceTrigger =>
      cases h
      simpa using hs
    | railStart sw =>
      cases h
      split <;> simpa using hs
    | fadeEnd | clickEnd =>
      cases h
      split
      · exact ite_wf hs hs
      · exact hs
    | _ => cases hparts

/-- Settles O59: a step idles, or is a command on the state with the queue's rest. -/
theorem everyStepKeepsMemoryCanonical : Obligations.EveryStepKeepsMemoryCanonical := by
  intro s t hs h
  unfold step at h
  split at h
  · cases h
    exact hs
  · exact exec_wf h hs

end Sys2Proof.Proofs.EventMemory

/-! PROOFS. Chapters 08 and 09: the headphone samples of a frame and the click among them (R149, R150, R163, R164). -/

namespace Sys2Proof.Proofs.HeadphoneSamples

open Sys2Proof.Machine
open Sys2Proof.Claims (sent beyond)
open Sys2Proof.Proofs.Release (advanceTo_eq)

/-! ## One sample (R163, R164) -/

/-- A sample formed and limited. -/
theorem limit24_mixSample (a b : Int) (wA wB gain : Nat) (click : Int) :
    limit24 (mixSample a b wA wB gain click) = sent a b wA wB gain click := by
  simp only [limit24, mixSample, applyGain, sent, clampInt]
  split_ifs <;> omega

/-- The samples that the limit changes are those beyond it. -/
theorem saturates_mixSample (a b : Int) (wA wB gain : Nat) (click : Int) :
    saturates (mixSample a b wA wB gain click) = beyond a b wA wB gain click := by
  unfold saturates beyond
  dsimp only
  rw [decide_eq_decide]
  simp only [limit24, mixSample, applyGain, clampInt]
  split_ifs <;> omega

/-! ## The samples of a frame -/

/-- The limited samples of the frame, counted period by period. -/
theorem frameSaturations_map (f g : Nat → Int) :
    frameSaturations ((List.range 6).map (fun p => (f p, g p))) =
      ((List.range 6).filter (fun p => saturates (f p))).length +
        ((List.range 6).filter (fun p => saturates (g p))).length := by
  simp only [frameSaturations, List.filter_map, List.length_map]
  rfl

/-- The click sample of a period, for a click that has the frame's six samples before it. -/
theorem clickAt_underWay {c : Click} (hnext : c.next ≤ 90) (hcut : c.cut = false) {p : Nat} (hp : p < 6) :
    clickAt (some c) p = clickSample c (c.next + p) := by
  have hover : clickOver c = false := by simp [clickOver, hcut]; omega
  have hin : c.next + p < 96 := by omega
  simp [clickAt, hover, hin]

/-- A click under way moves on by the six samples of the frame. -/
theorem clickAfter_underWay {c : Click} (hnext : c.next ≤ 90) (hcut : c.cut = false) :
    clickAfter (some c) = some { c with next := c.next + 6 } := by
  have hover : clickOver c = false := by simp [clickOver, hcut]; omega
  simp [clickAfter, hover]

/-- The samples of a frame depend on the click through its six samples. -/
theorem frameResults_congr (m : Mixer) {click : Nat → Int} (h : ∀ p < 6, clickAt m.click p = click p) :
    frameResults m = (List.range 6).map (fun p =>
      let t := m.tone.getD p { al := 0, ar := 0, bl := 0, br := 0 }
      (mixSample t.al t.bl m.weightA m.weightB m.gainL (click p),
        mixSample t.ar t.br m.weightA m.weightB m.gainR (click p))) := by
  refine List.map_congr_left fun p hp => ?_
  rw [h p (List.mem_range.1 hp)]

/-! ## The end of a click (R150) -/

theorem clickOver_iff (c : Click) : clickOver c = true ↔ 96 ≤ c.next ∨ c.cut = true := by simp [clickOver]

/-- A click that has come to its end sounds no more. -/
theorem clickAt_over {c : Click} (h : clickOver c = true) (p : Nat) : clickAt (some c) p = 0 := by
  simp [clickAt, h]

theorem clickAfter_over {c : Click} (h : clickOver c = true) : clickAfter (some c) = none := by
  simp [clickAfter, h]

/-- CLICK_END is due once the 96 samples are formed. -/
theorem exec_clickEnd {c : Click} {s : State} (hclick : s.mixer.click = some c) (h : 96 ≤ c.next) :
    exec .clickEnd s = .next { s with mixer := { s.mixer with click := none } } := by
  have hdue : exec .clickEnd s = .next (match s.mixer.click with
    | some c => if 96 ≤ c.next then { s with mixer := { s.mixer with click := none } } else s
    | none => s) := rfl
  rw [hdue, hclick]
  exact congrArg _ (if_pos h)

/-- Settles O38: the six samples by the equation of one sample, the advance by its own equation, and the click that has come to
its end as a silent one. -/
theorem clickEndSendsTheLastSamples : Obligations.ClickEndSendsTheLastSamples := by
  refine ⟨fun s hclick _ => ?samples, fun q s hlimit => ?advance, fun c s hclick hover => ?last⟩
  case samples =>
    intro m click none_ tone
    have hwave : ∀ p < 6, clickAt s.mixer.click p = click p := by
      intro p hp
      simp only [click, m]
      cases hc : s.mixer.click with
      | none => rfl
      | some c => exact clickAt_underWay (hclick c hc).1 (hclick c hc).2 hp
    have hresults := frameResults_congr s.mixer hwave
    refine ⟨_, rfl, ?_, ?_, ?_, rfl⟩
    · change clickAfter s.mixer.click = _
      simp only [m]
      cases hc : s.mixer.click with
      | none => rfl
      | some c => exact clickAfter_underWay (hclick c hc).1 (hclick c hc).2
    · change (frameResults s.mixer).map (fun r => (limit24 r.1, limit24 r.2)) = _
      rw [hresults, List.map_map]
      refine List.map_congr_left fun p _ => ?_
      simp only [Function.comp_apply, limit24_mixSample]
      rfl
    · change min 65535 (s.mixer.saturation + frameSaturations (frameResults s.mixer)) = _
      rw [hresults, frameSaturations_map, ← Nat.add_assoc]
      simp only [saturates_mixSample]
      rfl
  case advance =>
    refine advanceTo_eq ?_
    rw [belowLimit, Bool.or_eq_true, decide_eq_true_eq]
    exact hlimit
  case last =>
    have hover' := (clickOver_iff c).2 hover
    refine ⟨exec_clickEnd hclick, ?_, ?_⟩
    · change clickAfter s.mixer.click = none
      rw [hclick, clickAfter_over hover']
    · have hsilent : frameResults s.mixer = frameResults { s.mixer with click := none } :=
        frameResults_congr s.mixer (click := fun _ => 0) fun p _ => by rw [hclick, clickAt_over hover']
      exact congrArg (fun rs => List.map _ rs) hsilent

end Sys2Proof.Proofs.HeadphoneSamples

/-! PROOFS. Chapter 07: the areas of event memory (R114, R116 to R118, R130): consecutive slots, headers and roles, and the
records of a TAKE_WRITE body. -/

namespace Sys2Proof.Proofs.TakeArea

open Sys2Proof.Machine
open Sys2Proof.Claims (header barsFit fitsRecord acceptable storedRecord)
open Sys2Proof.Proofs.StrikeVelocity (completed u16_of_bytes)

/-! ## Records in consecutive slots -/

/-- Slots outside the consecutive ones stand. -/
theorem slotAt_storeRecords_other {rs : List TakeRecord} {i n : Nat} (h : n < i ∨ i + rs.length ≤ n) (m : Slots) :
    slotAt (storeRecords rs i m) n = slotAt m n := by
  induction rs generalizing i m with
  | nil => rfl
  | cons r rs ih =>
    rw [List.length_cons] at h
    rw [storeRecords, ih (by omega), slotAt_slotPut_ne i n r (by omega)]

/-- Each record stands in its slot. -/
theorem slotAt_storeRecords_stored {rs : List TakeRecord} {i : Nat} {m : Slots} (hm : slotsWf m = true) (j : Nat)
    (h : j < rs.length) : slotAt (storeRecords rs i m) (i + j) = rs[j] := by
  induction rs generalizing i j m with
  | nil => simp at h
  | cons r rs ih =>
    rw [storeRecords]
    cases j with
    | zero => rw [slotAt_storeRecords_other (by omega), Nat.add_zero, slotAt_slotPut_self i r hm]; rfl
    | succ j =>
      rw [← Nat.add_assoc, Nat.add_right_comm]
      exact ih (slotPut_wf i r hm) j (by simpa using h)

/-! ## Headers and roles (R116, R117, R130) -/

/-- The four bytes of a 32-bit number give it back. -/
theorem u32_of_bytes {n : Nat} (h : n < 4294967296) :
    (BitVec.ofNat 8 n).toNat + 256 * (BitVec.ofNat 8 (n / 256)).toNat +
      65536 * ((BitVec.ofNat 8 (n / 256 / 256)).toNat + 256 * (BitVec.ofNat 8 (n / 256 / 256 / 256)).toNat) = n := by
  simp only [BitVec.toNat_ofNat]; omega

theorem barsOk_iff (barLen beats : Nat) : barsOk barLen beats = true ↔ barsFit barLen beats := by
  simp [barsOk, barsFit, and_assoc]

/-- A header is read back from its bytes. -/
theorem headerOfBody_header {h : AreaHeader} (hcount : h.count < 65536) (hbar : h.barLen < 4294967296)
    (hbeats : h.beats < 256) : headerOfBody (header h) = h := by
  have hc : u16At (header h) 0 = h.count := u16_of_bytes hcount
  have hl : u32At (header h) 2 = h.barLen := u32_of_bytes hbar
  have hb : u8At (header h) 6 = h.beats := Nat.mod_eq_of_lt hbeats
  rw [headerOfBody, hc, hl, hb]

theorem takeHeaderWriteOp_wrongState {h : AreaHeader} {s : State} (hstate : s.player.state ≠ .stopped) :
    takeHeaderWriteOp (header h) s = (s, .err .wrongState) :=
  if_pos hstate

theorem takeHeaderWriteOp_badValue {h : AreaHeader} (hcount : h.count < 65536) (hbar : h.barLen < 4294967296)
    (hbeats : h.beats < 256) (hfits : ¬ (h.count ≤ 16384 ∧ barsFit h.barLen h.beats)) {s : State}
    (hstate : s.player.state = .stopped) : takeHeaderWriteOp (header h) s = (s, .err .badValue) := by
  have hbad : 16384 < h.count ∨ barsOk h.barLen h.beats = false := by
    rwa [← barsOk_iff, not_and_or, not_le, Bool.not_eq_true] at hfits
  refine (if_neg (not_not.2 hstate)).trans ?_
  rw [headerOfBody_header hcount hbar hbeats]
  exact if_pos hbad

theorem takeHeaderWriteOp_written {h : AreaHeader} (hcount : h.count < 65536) (hbar : h.barLen < 4294967296)
    (hbeats : h.beats < 256) (hfits : h.count ≤ 16384 ∧ barsFit h.barLen h.beats) {s : State}
    (hstate : s.player.state = .stopped) : takeHeaderWriteOp (header h) s =
      (forgetStartTarget { s with memory := s.memory.setTakeHeader h }, .ok (header h)) := by
  have hgood : ¬ (16384 < h.count ∨ barsOk h.barLen h.beats = false) := by
    rwa [not_or, not_lt, Bool.not_eq_false, barsOk_iff]
  refine (if_neg (not_not.2 hstate)).trans ?_
  rw [headerOfBody_header hcount hbar hbeats]
  exact if_neg hgood

theorem takeHeaderWriteOp_badLength {body : List Byte} (h0 : body.length ≠ 0) (h7 : body.length ≠ 7) (s : State) :
    takeHeaderWriteOp body s = (s, .err .badLength) := by
  rw [takeHeaderWriteOp, if_neg h0, if_neg h7]

/-- A promotion swaps the roles; the new CAPTURE area has the default header, and no slot changes. -/
theorem promoteMemory_spec (m : TakeMemory) :
    (promoteMemory m).takeIsArea0 = (!m.takeIsArea0) ∧ (promoteMemory m).take = m.capture ∧
      (promoteMemory m).capture = { m.take with header := defaultHeader } ∧
      (promoteMemory m).area0.slots = m.area0.slots ∧ (promoteMemory m).area1.slots = m.area1.slots := by
  obtain ⟨a0, a1, role⟩ := m
  cases role <;> exact ⟨rfl, rfl, rfl, rfl, rfl⟩

theorem promoteOp_wrongState {s : State} (h : ¬ (s.player.state = .stopped ∧ s.recorder.state = .idle)) :
    promoteOp [] s = (s, .err .wrongState) := by
  rw [promoteOp, if_neg (by simp), if_pos (not_and_or.1 h)]

theorem promoteOp_promoted {s : State} (h : s.player.state = .stopped ∧ s.recorder.state = .idle) :
    promoteOp [] s = (forgetStartTarget { s with memory := promoteMemory s.memory },
      .ok (header s.memory.capture.header ++ (if s.memory.takeIsArea0 then [1, 0] else [0, 1]))) := by
  obtain ⟨hstate, hidle⟩ := h
  obtain ⟨hroles, htake, -⟩ := promoteMemory_spec s.memory
  have hreply : headerBytes (promoteMemory s.memory).take.header ++ roleBytes (promoteMemory s.memory) =
      header s.memory.capture.header ++ (if s.memory.takeIsArea0 then [1, 0] else [0, 1]) := by
    rw [htake, roleBytes, hroles]
    cases s.memory.takeIsArea0 <;> rfl
  rw [← hreply, promoteOp, if_neg (by simp), if_neg (by simp [hstate, hidle])]
  rfl

theorem promoteOp_badLength {body : List Byte} (h : body ≠ []) (s : State) : promoteOp body s = (s, .err .badLength) :=
  if_pos (by simpa using h)

/-- Settles O39: one equation of the operation per clause, each completed by its reply. -/
theorem headersAndRolesOfTheAreas : Obligations.HeadersAndRolesOfTheAreas := by
  refine ⟨fun tag count barLen beats body s hw hcount hbar hbeats => ?write, fun tag body s hw => ?promote⟩
  case write =>
    intro h i fits
    refine ⟨fun hstate => completed hw (takeHeaderWriteOp_wrongState hstate),
      fun hstate hfits => completed hw (takeHeaderWriteOp_badValue hcount hbar hbeats hfits hstate),
      fun hstate hfits => ⟨_, completed hw (takeHeaderWriteOp_written hcount hbar hbeats hfits hstate), ?_, ?_, ?_, rfl⟩,
      completed hw rfl, fun h0 h7 => completed hw (takeHeaderWriteOp_badLength h0 h7 s)⟩
    · exact take_setTake _ _
    · exact capture_setTake _ _
    · exact roles_setTake _ _
  case promote =>
    intro quiet
    obtain ⟨hroles, htake, hcapture, harea0, harea1⟩ := promoteMemory_spec s.memory
    exact ⟨fun hquiet => completed hw (promoteOp_wrongState hquiet),
      fun hquiet => ⟨_, completed hw (promoteOp_promoted hquiet), hroles, htake, hcapture, harea0, harea1, rfl⟩,
      fun hbody => completed hw (promoteOp_badLength hbody s)⟩

/-! ## The records of a body (R118, R181) -/

theorem takeBytes_length (r : TakeRecord) : (takeBytes r).length = 8 := rfl

/-- The pieces of equal length that a list is put together from are cut out of it again. -/
theorem drop_take_flatMap {α β : Type} {f : α → List β} {n : Nat} (hf : ∀ a, (f a).length = n) {l : List α} {i : Nat}
    (h : i < l.length) : ((l.flatMap f).drop (n * i)).take n = f l[i] := by
  induction l generalizing i with
  | nil => simp at h
  | cons a l ih =>
    rw [List.flatMap_cons]
    cases i with
    | zero => rw [Nat.mul_zero, List.drop_zero, List.take_left' (hf a)]; rfl
    | succ i =>
      rw [Nat.mul_succ, Nat.add_comm, ← List.drop_drop, List.drop_left' (hf a)]
      exact ih (by simpa using h)

section Body
variable {start : Nat} {rs : List TakeRecord}

theorem takeBody_length : (leBytes 2 start ++ rs.flatMap takeBytes).length = 2 + 8 * rs.length := by
  rw [List.length_append, leBytes_length, List.length_flatMap]
  simp [takeBytes_length, Nat.mul_comm]

theorem takeWriteCount_takeBody : takeWriteCount (leBytes 2 start ++ rs.flatMap takeBytes) = rs.length := by
  rw [takeWriteCount, takeBody_length]; omega

theorem recordBytes_takeBody {i : Nat} (h : i < rs.length) :
    recordBytes (leBytes 2 start ++ rs.flatMap takeBytes) i = takeBytes rs[i] := by
  rw [recordBytes, ← List.drop_drop, List.drop_left' (leBytes_length 2 start)]
  exact drop_take_flatMap takeBytes_length h

/-- The records of a body are read one by one. -/
theorem takeWriteRecords_takeBody : takeWriteRecords (leBytes 2 start ++ rs.flatMap takeBytes) =
    rs.mapM (fun r => takeRecordOf (takeBytes r)) := by
  have hrecords : (List.range rs.length).map (recordBytes (leBytes 2 start ++ rs.flatMap takeBytes)) = rs.map takeBytes :=
    List.ext_getElem (by simp) fun i h _ => by
      rw [List.getElem_map, List.getElem_map, List.getElem_range]
      exact recordBytes_takeBody (by simpa using h)
  have hread := congrArg (List.mapM takeRecordOf) hrecords
  rw [List.mapM_map, List.mapM_map] at hread
  rw [takeWriteRecords, takeWriteCount_takeBody]
  exact hread

end Body

section Record
variable {r : TakeRecord}

theorem takeBytes_fields (h : fitsRecord r) : u16At (takeBytes r) 0 = r.delta ∧ u8At (takeBytes r) 3 = r.part ∧
    u8At (takeBytes r) 4 = r.key ∧ u8At (takeBytes r) 5 = r.value ∧ u8At (takeBytes r) 6 = r.sub := by
  obtain ⟨hdelta, hpart, hkey, hvalue, hsub⟩ := h
  exact ⟨u16_of_bytes hdelta, Nat.mod_eq_of_lt hpart, Nat.mod_eq_of_lt hkey, Nat.mod_eq_of_lt hvalue, Nat.mod_eq_of_lt hsub⟩

theorem takeBytes_kind (r : TakeRecord) : takeKindOf (u8At (takeBytes r) 2) = some r.kind := by
  obtain ⟨delta, kind, part, key, value, sub⟩ := r
  cases kind <;> rfl

theorem takeBytes_check (r : TakeRecord) : sumBytes ((takeBytes r).take 7) = (takeBytes r).getD 7 0 := rfl

/-- A record is read back as it is stored where it is acceptable (R118). -/
theorem takeRecordOf_acceptable (h : fitsRecord r) (hok : acceptable r) :
    takeRecordOf (takeBytes r) = some (storedRecord r) := by
  obtain ⟨hdelta, hpart, hkey, hvalue, hsub⟩ := takeBytes_fields h
  obtain ⟨okPart, okSub, okNote, okPedal, okSpacer⟩ := hok
  simp only [takeRecordOf, takeBytes_kind, takeBytes_check, hdelta, hpart, hkey, hvalue, hsub]
  obtain ⟨delta, kind, part, key, value, sub⟩ := r
  cases kind <;> simp_all [storedRecord]

theorem takeRecordOf_unacceptable (h : fitsRecord r) (hbad : ¬ acceptable r) : takeRecordOf (takeBytes r) = none := by
  obtain ⟨hdelta, hpart, hkey, hvalue, hsub⟩ := takeBytes_fields h
  simp only [takeRecordOf, takeBytes_kind, takeBytes_check, hdelta, hpart, hkey, hvalue, hsub]
  obtain ⟨delta, kind, part, key, value, sub⟩ := r
  cases kind <;> simp [acceptable] at hbad ⊢ <;> omega

end Record

/-- Records that are all acceptable are all read. -/
theorem mapM_takeRecordOf_acceptable {rs : List TakeRecord} (h : ∀ r ∈ rs, fitsRecord r) (hok : ∀ r ∈ rs, acceptable r) :
    rs.mapM (fun r => takeRecordOf (takeBytes r)) = some (rs.map storedRecord) := by
  induction rs with
  | nil => rfl
  | cons r rs ih =>
    rw [List.forall_mem_cons] at h hok
    rw [List.mapM_cons, takeRecordOf_acceptable h.1 hok.1, ih h.2 hok.2]
    rfl

/-- One unacceptable record refuses them all. -/
theorem mapM_takeRecordOf_unacceptable {rs : List TakeRecord} (h : ∀ r ∈ rs, fitsRecord r)
    (hbad : ¬ ∀ r ∈ rs, acceptable r) : rs.mapM (fun r => takeRecordOf (takeBytes r)) = none := by
  induction rs with
  | nil => exact absurd (List.forall_mem_nil _) hbad
  | cons r rs ih =>
    rw [List.forall_mem_cons] at h hbad
    rw [List.mapM_cons]
    by_cases hr : acceptable r
    · rw [takeRecordOf_acceptable h.1 hr, ih h.2 fun hrs => hbad ⟨hr, hrs⟩]
      rfl
    · rw [takeRecordOf_unacceptable h.1 hr]
      rfl

/-! ## TAKE_WRITE (R118) -/

/-- Event memory with records in consecutive slots of the TAKE area. -/
abbrev takeStored (rs : List TakeRecord) (start : Nat) (m : TakeMemory) : TakeMemory :=
  m.setTake { m.take with slots := storeRecords rs start m.take.slots }

section TakeWrite
variable {start : Nat} {rs : List TakeRecord} {s : State}

theorem takeBody_lengthOk (h1 : 1 ≤ rs.length) (h29 : rs.length ≤ 29) :
    takeWriteLengthOk (leBytes 2 start ++ rs.flatMap takeBytes) = true := by
  simp only [takeWriteLengthOk, takeBody_length, Bool.and_eq_true, decide_eq_true_eq]
  omega

theorem takeWriteOp_wrongState (h1 : 1 ≤ rs.length) (h29 : rs.length ≤ 29) (hstate : s.player.state ≠ .stopped) :
    takeWriteOp (leBytes 2 start ++ rs.flatMap takeBytes) s = (s, .err .wrongState) := by
  rw [takeWriteOp, takeBody_lengthOk h1 h29, if_neg (by decide), if_pos hstate]

/-- The start slot is read back from the body. -/
theorem takeBody_start (hstart : start < 65536) : u16At (leBytes 2 start ++ rs.flatMap takeBytes) 0 = start :=
  u16_of_bytes hstart

theorem takeWriteOp_badValue (hstart : start < 65536) (h1 : 1 ≤ rs.length) (h29 : rs.length ≤ 29)
    (hfits : ∀ r ∈ rs, fitsRecord r) (hbad : ¬ (start + rs.length ≤ 16384 ∧ ∀ r ∈ rs, acceptable r))
    (hstate : s.player.state = .stopped) :
    takeWriteOp (leBytes 2 start ++ rs.flatMap takeBytes) s = (s, .err .badValue) := by
  rw [takeWriteOp, takeBody_lengthOk h1 h29, if_neg (by decide), if_neg (not_not.2 hstate), takeWriteCount_takeBody,
    takeWriteRecords_takeBody, takeBody_start hstart]
  by_cases hroom : 16384 < start + rs.length
  · exact if_pos hroom
  · rw [if_neg hroom, mapM_takeRecordOf_unacceptable hfits fun hok => hbad ⟨by omega, hok⟩]

theorem takeWriteOp_stored (hstart : start < 65536) (h1 : 1 ≤ rs.length) (h29 : rs.length ≤ 29)
    (hfits : ∀ r ∈ rs, fitsRecord r) (hroom : start + rs.length ≤ 16384) (hok : ∀ r ∈ rs, acceptable r)
    (hstate : s.player.state = .stopped) : takeWriteOp (leBytes 2 start ++ rs.flatMap takeBytes) s =
      (forgetStartTarget { s with memory := takeStored (rs.map storedRecord) start s.memory },
        .ok (leBytes 1 rs.length ++ leBytes 2 (start + rs.length) ++ leBytes 2 s.memory.take.header.count)) := by
  rw [takeWriteOp, takeBody_lengthOk h1 h29, if_neg (by decide), if_neg (not_not.2 hstate), takeWriteCount_takeBody,
    takeWriteRecords_takeBody, takeBody_start hstart, if_neg (by omega), mapM_takeRecordOf_acceptable hfits hok]
  simp only [List.length_map]

theorem takeWriteOp_badLength {body : List Byte} (h : body.length < 10 ∨ 234 < body.length ∨ body.length % 8 ≠ 2)
    (s : State) : takeWriteOp body s = (s, .err .badLength) := by
  have hbad : takeWriteLengthOk body = false := by
    rw [← Bool.not_eq_true]
    simp only [takeWriteLengthOk, Bool.and_eq_true, decide_eq_true_eq]
    omega
  rw [takeWriteOp, if_pos hbad]

end TakeWrite

/-- Settles O40: the refusals, and the records read from the body stored in consecutive slots of the TAKE area. -/
theorem takeWriteStoresRecords : Obligations.TakeWriteStoresRecords := by
  intro tag start rs body s hw hwf hstart h1 h29 hfits i good
  refine ⟨fun hstate => completed hw (takeWriteOp_wrongState h1 h29 hstate),
    fun hstate hbad => completed hw (takeWriteOp_badValue hstart h1 h29 hfits hbad hstate),
    fun hstate ⟨hroom, hok⟩ =>
      ⟨_, completed hw (takeWriteOp_stored hstart h1 h29 hfits hroom hok hstate), fun j hj => ?stored, fun n hn => ?other,
        ?header, capture_setTake _ _, roles_setTake _ _, ?form, rfl⟩,
    fun hbody => completed hw (takeWriteOp_badLength hbody s)⟩
  all_goals obtain ⟨htake, -⟩ := (memory_wf_iff _).1 hwf
  case stored =>
    have hslot := slotAt_storeRecords_stored (rs := rs.map storedRecord) (i := start) htake j (by simpa using hj)
    simpa [forgetStartTarget] using hslot
  case other =>
    have hslot := slotAt_storeRecords_other (rs := rs.map storedRecord) (i := start) (n := n) (by simpa using hn)
      s.memory.take.slots
    simpa [forgetStartTarget] using hslot
  case header => simp [forgetStartTarget]
  case form => exact setTake_wf hwf (storeRecords_wf htake)

end Sys2Proof.Proofs.TakeArea

/-! PROOFS. Chapter 07: the Capture Recorder (R120 to R129): what it appends, how a recording starts, and how it closes. -/

namespace Sys2Proof.Proofs.Recording

open Sys2Proof.Machine
open Sys2Proof.Claims (appended capturedAt livePart heldFor called started emptied barsFit)
open Sys2Proof.Proofs.StrikeVelocity (completed)
open Sys2Proof.Proofs.TakeArea (slotAt_storeRecords_stored slotAt_storeRecords_other barsOk_iff u32_of_bytes)

/-! ## Appending (R125, R126) -/

@[simp] theorem setCapture_setCapture (m : TakeMemory) (a b : Area) : (m.setCapture a).setCapture b = m.setCapture b := by
  obtain ⟨a0, a1, role⟩ := m; cases role <;> rfl

@[simp] theorem setCapture_capture (m : TakeMemory) : m.setCapture m.capture = m := by
  obtain ⟨a0, a1, role⟩ := m; cases role <;> rfl

/-- The CAPTURE area with records in its next slots. -/
def extended (rs : List TakeRecord) (a : Area) : Area :=
  { slots := storeRecords rs a.header.count a.slots
    header := { a.header with count := a.header.count + rs.length } }

/-- Records appended stand in the next slots of the CAPTURE area; nothing but event memory changes. -/
theorem appendAll_eq (rs : List TakeRecord) (s : State) : appendAll rs s =
    { s with memory := s.memory.setCapture (extended rs s.memory.capture) } := by
  induction rs generalizing s with
  | nil =>
    have hsame : extended [] s.memory.capture = s.memory.capture := rfl
    rw [appendAll, hsame, setCapture_capture]
  | cons r rs ih =>
    rw [appendAll, ih]
    simp only [appendTake, capture_setCapture, setCapture_setCapture, extended, storeRecords, List.length_cons,
      Nat.add_assoc, Nat.add_comm 1]

/-- Records appended are appended as it is stated. -/
theorem appended_setCapture {m : TakeMemory} (h : Memory.wf m = true) (rs : List TakeRecord) :
    appended rs m (m.setCapture (extended rs m.capture)) := by
  have hcapture := ((memory_wf_iff m).1 h).2
  refine ⟨?_, fun j hj => ?_, fun i hi => ?_, take_setCapture _ _, roles_setCapture _ _⟩
  · rw [capture_setCapture]; rfl
  · rw [capture_setCapture]; exact slotAt_storeRecords_stored hcapture j hj
  · rw [capture_setCapture]; exact slotAt_storeRecords_other hi _

/-- SPACERs appended raise the last position by 65,535 each. -/
theorem appendSpacers_eq (n : Nat) (s : State) : appendSpacers n s = { s with
    memory := s.memory.setCapture (extended (List.replicate n spacerRecord) s.memory.capture)
    recorder := { s.recorder with lastPos := s.recorder.lastPos + 65535 * n } } := by
  have hall (s : State) : appendSpacers n s = { appendAll (List.replicate n spacerRecord) s with
      recorder := { s.recorder with lastPos := s.recorder.lastPos + 65535 * n } } := by
    induction n generalizing s with
    | zero => rfl
    | succ n ih =>
      rw [appendSpacers, ih, Nat.mul_succ, Nat.add_comm (65535 * n), ← Nat.add_assoc]
      rw [List.replicate_succ, appendAll, appendAll_eq, appendAll_eq]
      rfl
  rw [hall, appendAll_eq]

/-! ## The capture position and its gap (R124, R126) -/

theorem capturePos_eq {base : RecBase} {s : State} (h : s.recorder.base = some base) : capturePos s = capturedAt base s := by
  rw [capturePos, h]
  cases base <;> rfl

/-- A gap of at most 65,535 frames needs no SPACER. -/
theorem spacersNeeded_eq_zero {s : State} (h : capturePos s - s.recorder.lastPos ≤ 65535) : spacersNeeded s = 0 := by
  rw [spacersNeeded, spacersFor]; omega

/-! ## The captured-sounding set (R127) -/

theorem heldFor_cons (j q : Nat) (set : List (Nat × Nat)) (key : Nat) :
    heldFor ((j, q) :: set) key = if key = j then some q else heldFor set key := by
  by_cases h : j = key
  · simp [heldFor, h]
  · simp [heldFor, h, Ne.symm h]

/-- A pair put into the set is the one held for its key. -/
theorem heldFor_putPair (set : List (Nat × Nat)) (k p key : Nat) :
    heldFor (putPair set k p) key = if key = k then some p else heldFor set key := by
  induction set with
  | nil => exact heldFor_cons k p [] key
  | cons e set ih =>
    obtain ⟨j, q⟩ := e
    rw [putPair]
    by_cases hlt : k < j
    · rw [if_pos hlt, heldFor_cons]
    · by_cases heq : k = j
      · subst heq
        rw [if_neg hlt, if_pos rfl, heldFor_cons, heldFor_cons]
        split_ifs <;> rfl
      · rw [if_neg hlt, if_neg heq, heldFor_cons, heldFor_cons, ih]
        split_ifs with hj hk
        · omega
        all_goals rfl

/-- A key taken out of the set is held no more. -/
theorem heldFor_filter (set : List (Nat × Nat)) (k key : Nat) :
    heldFor (set.filter (fun p => decide (p.1 ≠ k))) key = if key = k then none else heldFor set key := by
  induction set with
  | nil => simp [heldFor]
  | cons e set ih =>
    obtain ⟨j, q⟩ := e
    by_cases hj : j = k
    · subst hj
      rw [List.filter_cons_of_neg (by simp), ih, heldFor_cons]
      split_ifs <;> rfl
    · rw [List.filter_cons_of_pos (by simpa using hj), heldFor_cons, heldFor_cons, ih]
      split_ifs with hkj hk
      · omega
      all_goals rfl

/-! ## The records of an observed live record (R125, R127) -/

/-- A live record as it is captured, before its delta is given. -/
abbrev captureOf (kind : TakeKind) (part : Nat) (ev : EventRecord) : TakeRecord :=
  { delta := 0, kind := kind, part := part, key := ev.key, value := ev.value, sub := ev.offset }

/-- The NOTE_OFF inserted before a NOTE_ON of a key that another part holds. -/
abbrev insertedOff (part sub : Nat) (ev : EventRecord) : TakeRecord :=
  { delta := 0, kind := .noteOff, part := part, key := ev.key, value := 0, sub := sub }

section Records
variable {ev : EventRecord} {s : State}

theorem captureRecords_noteOn_alone (hkind : ev.kind = .noteOn) (hheld : ∀ q, heldFor s.recorder.sounding ev.key = some q →
    q = livePart s.recorder.partMode ev.part) :
    captureRecords ev s = [captureOf .noteOn (livePart s.recorder.partMode ev.part) ev] := by
  unfold captureRecords
  simp only [hkind]
  split
  next q hq => exact if_pos (hheld q hq)
  · rfl

theorem captureRecords_noteOn_other (hkind : ev.kind = .noteOn) {q : Nat}
    (hheld : heldFor s.recorder.sounding ev.key = some q) (hq : q ≠ livePart s.recorder.partMode ev.part) :
    captureRecords ev s = [insertedOff q (freeSub s) ev, captureOf .noteOn (livePart s.recorder.partMode ev.part) ev] := by
  unfold captureRecords
  simp only [hkind]
  rw [show heldPart s.recorder.sounding ev.key = some q from hheld]
  exact if_neg hq

theorem captureRecords_noteOff_held (hkind : ev.kind = .noteOff) {q : Nat}
    (hheld : heldFor s.recorder.sounding ev.key = some q) : captureRecords ev s =
      [captureOf .noteOff (livePart s.recorder.partMode q) ev] := by
  unfold captureRecords
  simp only [hkind]
  rw [show heldPart s.recorder.sounding ev.key = some q from hheld]
  rfl

theorem captureRecords_noteOff_free (hkind : ev.kind = .noteOff) (hheld : heldFor s.recorder.sounding ev.key = none) :
    captureRecords ev s = [] := by
  unfold captureRecords
  simp only [hkind]
  rw [show heldPart s.recorder.sounding ev.key = none from hheld]

theorem captureRecords_pedal {kind : TakeKind} (hpedal : ev.kind = .damper ∨ ev.kind = .sostenuto ∨ ev.kind = .soft)
    (hkind : captureKind ev.kind = some kind) : captureRecords ev s =
      if s.recorder.pedals then [captureOf kind (livePart s.recorder.partMode ev.part) ev] else [] := by
  unfold captureRecords
  rcases hpedal with h | h | h <;> simp only [h, captureKind, Option.some.injEq] at hkind ⊢ <;> subst hkind <;> rfl

theorem captureRecords_passed (hkind : captureKind ev.kind = none) : captureRecords ev s = [] := by
  unfold captureRecords
  revert hkind
  cases ev.kind <;> simp [captureKind]

/-- A NOTE_ON of a held key calls for one record, or for two where another part holds the key. -/
theorem called_noteOn_held {r : Recorder} (hkind : ev.kind = .noteOn) {q : Nat} (hheld : heldFor r.sounding ev.key = some q) :
    called ev r = if q = livePart r.partMode ev.part then 1 else 2 := by
  simp only [called, hkind, hheld]

/-- As many records as the rules call for. -/
theorem captureRecords_length (ev : EventRecord) (s : State) : (captureRecords ev s).length = called ev s.recorder := by
  cases hkind : ev.kind with
  | noteOn =>
    cases hheld : heldFor s.recorder.sounding ev.key with
    | none => rw [captureRecords_noteOn_alone hkind (by simp [hheld])]; simp [called, hkind, hheld]
    | some q =>
      by_cases hq : q = livePart s.recorder.partMode ev.part
      · rw [captureRecords_noteOn_alone hkind (by simp [hheld, hq]), called_noteOn_held hkind hheld, if_pos hq]; rfl
      · rw [captureRecords_noteOn_other hkind hheld hq, called_noteOn_held hkind hheld, if_neg hq]; rfl
  | noteOff =>
    cases hheld : heldFor s.recorder.sounding ev.key with
    | none => rw [captureRecords_noteOff_free hkind hheld]; simp [called, hkind, hheld]
    | some q => rw [captureRecords_noteOff_held hkind hheld]; simp [called, hkind, hheld]
  | damper | sostenuto | soft =>
    rw [captureRecords_pedal (by simp [hkind]) (by rw [hkind]; rfl)]
    simp only [called, hkind]
    split <;> rfl
  | guideOn | guideOff | miss => rw [captureRecords_passed (by rw [hkind]; rfl)]; simp [called, hkind]

/-- A pedal record that is called for is one record, of the live part. -/
theorem captureRecords_pedal_called {kind : TakeKind} (hpedal : ev.kind = .damper ∨ ev.kind = .sostenuto ∨ ev.kind = .soft)
    (hkind : captureKind ev.kind = some kind) (h : 1 ≤ called ev s.recorder) :
    captureRecords ev s = [captureOf kind (livePart s.recorder.partMode ev.part) ev] := by
  have hincluded : s.recorder.pedals = true := by
    by_contra hno
    rcases hpedal with hk | hk | hk <;> simp [called, hk, hno] at h
  rw [captureRecords_pedal hpedal hkind, if_pos hincluded]

/-- The part a NOTE_ON or a DAMPER leaves in the recorder's marks. -/
theorem captureRecords_lastPart (hkind : ev.kind = .noteOn ∨ ev.kind = .damper) (h : 1 ≤ called ev s.recorder) :
    ((captureRecords ev s).getLast?.map TakeRecord.part).getD 0 = livePart s.recorder.partMode ev.part := by
  rcases hkind with hkind | hkind
  · cases hheld : heldFor s.recorder.sounding ev.key with
    | none => rw [captureRecords_noteOn_alone hkind (by simp [hheld])]; rfl
    | some q =>
      by_cases hq : q = livePart s.recorder.partMode ev.part
      · rw [captureRecords_noteOn_alone hkind (by simp [hheld, hq])]; rfl
      · rw [captureRecords_noteOn_other hkind hheld hq]; rfl
  · rw [captureRecords_pedal_called (.inl hkind) (by rw [hkind]; rfl) h]
    rfl

end Records

/-! ## The recorder's marks (R125, R127) -/

section Marks
variable (ev : EventRecord) (part pos : Nat) (r : Recorder)

theorem markCaptured_frame : markCaptured ev part pos r = { r with
    lastPos := pos
    sounding := (markCaptured ev part pos r).sounding
    damperValue := (markCaptured ev part pos r).damperValue
    damperPart := (markCaptured ev part pos r).damperPart } := by
  unfold markCaptured; split <;> rfl

theorem heldFor_markCaptured (key : Nat) : heldFor (markCaptured ev part pos r).sounding key =
    if key = ev.key ∧ ev.kind = .noteOn then some part
    else if key = ev.key ∧ ev.kind = .noteOff then none
    else heldFor r.sounding key := by
  unfold markCaptured
  split
  next hkind => simp only [hkind, and_true, heldFor_putPair]; simp
  next hkind => simp only [hkind, and_true, heldFor_filter]; simp
  next hkind => simp [hkind]
  next hon hoff _ => rw [if_neg fun h => hon h.2, if_neg fun h => hoff h.2]

theorem damper_markCaptured : ((markCaptured ev part pos r).damperValue, (markCaptured ev part pos r).damperPart) =
    if ev.kind = .damper then (ev.value, part) else (r.damperValue, r.damperPart) := by
  unfold markCaptured
  split
  next hkind => simp [hkind]
  next hkind => simp [hkind]
  next hkind => simp [hkind]
  next hdamper => exact (if_neg hdamper).symm

end Marks

/-! ## A live record considered (R125 to R128) -/

section Consider
variable {ev : EventRecord} {s : State}

theorem captureConsider_passed (h : called ev s.recorder = 0) : captureConsider ev s = s := by
  have hnone : captureRecords ev s = [] := List.eq_nil_of_length_eq_zero (by rw [captureRecords_length, h])
  rw [captureConsider, hnone]

/-- A live record that calls for records has a take kind, of the same code. -/
theorem captureKind_of_called (h : 1 ≤ called ev s.recorder) :
    ∃ kind, captureKind ev.kind = some kind ∧ kind.code = ev.kind.code := by
  cases hkind : ev.kind with
  | noteOn | noteOff | damper | sostenuto | soft => exact ⟨_, rfl, rfl⟩
  | guideOn | guideOff | miss => simp [called, hkind] at h

/-- A live record that calls for records is appended where the reserve is kept, and closes the recording where it is not. -/
theorem captureConsider_called (h : 1 ≤ called ev s.recorder) {kind : TakeKind} (hkind : captureKind ev.kind = some kind)
    (hgap : capturePos s - s.recorder.lastPos ≤ 65535) : captureConsider ev s =
      if captureCount s + called ev s.recorder ≤ openLimit then
        { s with
          memory := s.memory.setCapture
            (extended (firstDelta (capturePos s - s.recorder.lastPos) (captureRecords ev s)) s.memory.capture)
          recorder := markCaptured ev (((captureRecords ev s).getLast?.map TakeRecord.part).getD 0) (capturePos s) s.recorder
          free := if called ev s.recorder = 2 then s.free + 1 else s.free }
      else closeByReserve kind s := by
  rw [← captureRecords_length] at h ⊢
  have hspacers := spacersNeeded_eq_zero hgap
  cases hrs : captureRecords ev s with
  | nil => simp [hrs] at h
  | cons r rs =>
    simp only [captureConsider, hrs, hkind, hspacers, Nat.add_zero, appendSpacers, appendAll_eq]

end Consider

/-! ## The start of a recording (R121 to R124) -/

/-- A recording starts with its bar values, as it is stated. -/
theorem startCapture_eq {barLen beats : Nat} {s : State} (hbars : s.recorder.pendingBars = some (barLen, beats)) :
    startCapture s = { s with
      memory := s.memory.setCapture { s.memory.capture with header := { count := 0, barLen := barLen, beats := beats } }
      recorder := started s.recorder.partMode s.recorder.pedals s } := by
  rw [startCapture, hbars]
  rfl

theorem emptied_setCapture {barLen beats : Nat} {s t : State} (h : t.memory =
    s.memory.setCapture { s.memory.capture with header := { count := 0, barLen := barLen, beats := beats } }) :
    emptied barLen beats s t := by
  unfold emptied
  rw [h]
  exact ⟨capture_setCapture _ _, take_setCapture _ _, roles_setCapture _ _⟩

/-- Right at its start a recording stands at the Player's position, or at 0. -/
theorem capturedAt_started (s : State) :
    capturedAt (if s.player.state = .running then .player s.player.pos else .frames s.clock.frame) s =
      if s.player.state = .running then s.player.pos / 256 else 0 := by
  split
  · rfl
  · simp [capturedAt]

/-! ### RECORD_START -/

section RecordStart
variable {trig mode part pedals : Byte} {barLen beats : Nat} {s : State}

/-- A body of RECORD_START (R121). -/
abbrev recordBody (trig mode part pedals : Byte) (barLen beats : Nat) : List Byte :=
  [trig, mode, part, pedals] ++ leBytes 4 barLen ++ leBytes 1 beats

/-- The values RECORD_START accepts (R121). -/
abbrev recordFits (trig mode part pedals : Byte) (barLen beats : Nat) : Prop :=
  trig.toNat ≤ 2 ∧ mode.toNat ≤ 1 ∧ pedals.toNat ≤ 1 ∧ (mode.toNat = 1 → part.toNat ≤ 3) ∧ barsFit barLen beats

theorem recordBody_bars (hbar : barLen < 4294967296) (hbeats : beats < 256) :
    u32At (recordBody trig mode part pedals barLen beats) 4 = barLen ∧
      u8At (recordBody trig mode part pedals barLen beats) 8 = beats :=
  ⟨u32_of_bytes hbar, Nat.mod_eq_of_lt hbeats⟩

theorem recordStartOk_iff (hbar : barLen < 4294967296) (hbeats : beats < 256) :
    recordStartOk (recordBody trig mode part pedals barLen beats) = true ↔
      recordFits trig mode part pedals barLen beats := by
  obtain ⟨hlen, hbeat⟩ := recordBody_bars (trig := trig) (mode := mode) (part := part) (pedals := pedals) hbar hbeats
  have hpart : (!(decide (mode.toNat = 1) && decide (3 < part.toNat))) = true ↔ (mode.toNat = 1 → part.toNat ≤ 3) := by
    simp [imp_iff_not_or]
  have hok : recordStartOk (recordBody trig mode part pedals barLen beats) =
      (decide (trig.toNat ≤ 2) && decide (mode.toNat ≤ 1) && decide (pedals.toNat ≤ 1) &&
        !(decide (mode.toNat = 1) && decide (3 < part.toNat)) && barsOk barLen beats) := by
    rw [recordStartOk, hlen, hbeat]; rfl
  rw [hok, Bool.and_eq_true, Bool.and_eq_true, hpart, barsOk_iff]
  simp [recordFits, and_assoc]

theorem recordStartOp_wrongState (h : s.recorder.state ≠ .idle) :
    recordStartOp (recordBody trig mode part pedals barLen beats) s = (s, .err .wrongState) := by
  rw [recordStartOp, if_neg (by simp [leBytes_length]), if_pos h]

theorem recordStartOp_badValue (hbar : barLen < 4294967296) (hbeats : beats < 256) (h : s.recorder.state = .idle)
    (hfits : ¬ recordFits trig mode part pedals barLen beats) :
    recordStartOp (recordBody trig mode part pedals barLen beats) s = (s, .err .badValue) := by
  rw [← recordStartOk_iff hbar hbeats, Bool.not_eq_true] at hfits
  rw [recordStartOp, if_neg (by simp [leBytes_length]), if_neg (not_not.2 h), if_pos hfits]

/-- The recorder armed by an accepted RECORD_START. -/
abbrev armed (trigger : Option RecTrigger) (mode part pedals : Byte) (barLen beats : Nat) (s : State) : State :=
  { s with recorder := { s.recorder with
      state := .armed, trigger := trigger, partMode := if mode.toNat = 1 then .fixed part.toNat else .split
      pedals := decide (pedals.toNat = 1), pendingBars := some (barLen, beats) } }

theorem recordStartOp_accepted (hbar : barLen < 4294967296) (hbeats : beats < 256) (h : s.recorder.state = .idle)
    (hfits : recordFits trig mode part pedals barLen beats) :
    recordStartOp (recordBody trig mode part pedals barLen beats) s =
      if trig.toNat = 0 then (startCapture (armed (recTriggerOf trig.toNat) mode part pedals barLen beats s), .ok [2])
      else (armed (recTriggerOf trig.toNat) mode part pedals barLen beats s, .ok [1]) := by
  obtain ⟨hlen, hbeat⟩ := recordBody_bars (trig := trig) (mode := mode) (part := part) (pedals := pedals) hbar hbeats
  have harm : armRecorder (recordBody trig mode part pedals barLen beats) s.recorder =
      (armed (recTriggerOf trig.toNat) mode part pedals barLen beats s).recorder := by
    rw [armRecorder, hlen, hbeat]; rfl
  rw [recordStartOp, if_neg (by simp [leBytes_length]), if_neg (not_not.2 h),
    if_neg (by rw [(recordStartOk_iff hbar hbeats).2 hfits]; decide), harm]
  rfl

/-- The triggers that arm the recorder. -/
theorem recTriggerOf_later (h1 : 1 ≤ trig.toNat) (h2 : trig.toNat ≤ 2) :
    recTriggerOf trig.toNat = some (if trig.toNat = 1 then .firstKey else .cue) := by
  obtain h | h : trig.toNat = 1 ∨ trig.toNat = 2 := by omega
  all_goals rw [h]; rfl

end RecordStart

/-! ### The first key -/

section FirstKey
variable {note : LiveNote} {barLen beats : Nat} {s : State}

/-- Right at its start a recording stands at its capture position, with no record and nothing held. -/
theorem capturePos_startCapture (hbars : s.recorder.pendingBars = some (barLen, beats)) :
    capturePos (startCapture s) = if s.player.state = .running then s.player.pos / 256 else 0 := by
  rw [← capturedAt_started s, startCapture_eq hbars]
  exact capturePos_eq rfl

theorem captureCount_startCapture (s : State) : captureCount (startCapture s) = 0 := by
  simp [captureCount, startCapture]

/-- The NOTE_ON that starts a recording is its first record (R123). -/
theorem captureConsider_first (hbars : s.recorder.pendingBars = some (barLen, beats))
    (hpos : (if s.player.state = .running then s.player.pos / 256 else 0) ≤ 65535) :
    let pos := if s.player.state = .running then s.player.pos / 256 else 0
    let p := livePart s.recorder.partMode note.part
    let m := (startCapture s).memory
    captureConsider (liveNoteRecord note) (startCapture s) = { s with
      memory := m.setCapture (extended
        [{ delta := pos, kind := .noteOn, part := p, key := note.key.val, value := note.velocity, sub := note.offset }] m.capture)
      recorder := { started s.recorder.partMode s.recorder.pedals s with lastPos := pos, sounding := [(note.key.val, p)] } } := by
  intro pos p m
  have hat : capturePos (startCapture s) = pos := capturePos_startCapture hbars
  have hlast : (startCapture s).recorder.lastPos = 0 := rfl
  have hcalled : called (liveNoteRecord note) (startCapture s).recorder = 1 := rfl
  have hrecords : captureRecords (liveNoteRecord note) (startCapture s) = [captureOf .noteOn p (liveNoteRecord note)] :=
    captureRecords_noteOn_alone rfl nofun
  rw [captureConsider_called (by rw [hcalled]) rfl (by rw [hat, hlast]; exact hpos), captureCount_startCapture, hcalled,
    if_pos (by decide), hat, hlast, hrecords]
  rfl

end FirstKey

/-- Settles O41: RECORD_START by its three outcomes, the two later starts, and an observed record appended with its marks. -/
theorem recordingStartsByItsTrigger : Obligations.RecordingStartsByItsTrigger := by
  intro tag trig mode part pedals barLen beats note s hbar hbeats i fits pm r
  refine ⟨fun hw hstate => completed hw (recordStartOp_wrongState hstate),
    fun hw hstate hfits => completed hw (recordStartOp_badValue hbar hbeats hstate hfits),
    fun hw hstate hfits hnow => ?now, fun hw hstate hfits hlater => ?later, fun hstate htrigger hbars => ?cue,
    fun hstate htrigger hbars hwf => ?firstKey, fun ev base hstate hbase hwf => ?observed⟩
  case now =>
    have hop := recordStartOp_accepted hbar hbeats hstate hfits
    rw [if_pos hnow, startCapture_eq rfl] at hop
    exact ⟨_, completed hw hop, emptied_setCapture rfl, rfl⟩
  case later =>
    have hop := recordStartOp_accepted hbar hbeats hstate hfits
    rw [if_neg (by omega), recTriggerOf_later hlater hfits.1] at hop
    exact completed hw hop
  case cue =>
    have hexec : exec .recordCueStart s = .next (startCapture s) := congrArg _ (if_pos ⟨rfl, hstate, htrigger⟩)
    rw [startCapture_eq hbars] at hexec
    exact ⟨_, hexec, emptied_setCapture rfl, rfl⟩
  case firstKey =>
    intro pos p hpos
    have hobserve : captureObserve (liveNoteRecord note) s = captureConsider (liveNoteRecord note) (startCapture s) := by
      rw [captureObserve, hstate]
      exact if_pos ⟨htrigger, rfl⟩
    have hexec : exec (.recordFirstKeyStart note) s = .next (captureObserve (liveNoteRecord note) s) :=
      congrArg _ (if_pos ⟨hstate, htrigger⟩)
    obtain ⟨hheader, hstored, hother, htake, hroles⟩ := appended_setCapture (startCapture_wf hwf)
      [{ delta := pos, kind := .noteOn, part := p, key := note.key.val, value := note.velocity, sub := note.offset }]
    have hcapture : (startCapture s).memory.capture =
        { s.memory.capture with header := { count := 0, barLen := barLen, beats := beats } } := by
      rw [startCapture_eq hbars]; exact capture_setCapture _ _
    rw [hcapture] at hheader hstored hother
    rw [hobserve, captureConsider_first hbars hpos] at hexec
    refine ⟨_, hexec, ?_, ?_, fun n hn => ?_, ?_, ?_, rfl⟩
    · rw [hcapture]; exact hheader
    · rw [hcapture]; exact hstored 0 (by simp)
    · rw [hcapture]; exact hother n (.inr (Nat.one_le_iff_ne_zero.2 hn))
    · exact htake.trans (take_setCapture _ _)
    · exact hroles.trans (roles_setCapture _ _)
  case observed =>
    intro pos lp held n record moved
    have hobserve : captureObserve ev s = captureConsider ev s := by rw [captureObserve, hstate]
    have hpos : capturePos s = pos := capturePos_eq hbase
    rw [hobserve]
    refine ⟨captureConsider_passed, fun hcalled hgap hroom => ?_⟩
    obtain ⟨kind, hkind, -⟩ := captureKind_of_called hcalled
    have hconsider := (captureConsider_called hcalled hkind (by rw [hpos]; exact hgap)).trans (if_pos hroom)
    rw [hpos] at hconsider
    have hmemory (rs : List TakeRecord) (hrs : captureRecords ev s = rs) :
        appended (firstDelta (pos - r.lastPos) rs) s.memory (captureConsider ev s).memory := by
      rw [hconsider, ← hrs]
      exact appended_setCapture hwf _
    have hpart (h : ev.kind = .noteOn ∨ ev.kind = .damper) := captureRecords_lastPart h hcalled
    have hpedal {kind : TakeKind} (h : ev.kind = .damper ∨ ev.kind = .sostenuto ∨ ev.kind = .soft)
        (hk : captureKind ev.kind = some kind) := hmemory _ (captureRecords_pedal_called h hk hcalled)
    refine ⟨?frame, fun key => ?held, ?damper, fun hk hn => ?alone, fun hk hn q hq => ?other,
      fun hk q hq => hmemory _ (captureRecords_noteOff_held hk hq), fun hk => hpedal (.inl hk) (by rw [hk]; rfl),
      fun hk => hpedal (.inr (.inl hk)) (by rw [hk]; rfl), fun hk => hpedal (.inr (.inr hk)) (by rw [hk]; rfl)⟩
    case frame =>
      simp only [moved]
      rw [hconsider]
      dsimp only
      rw [← markCaptured_frame]
    case held =>
      rw [hconsider]
      refine (heldFor_markCaptured _ _ _ _ _).trans ?_
      by_cases hk : key = ev.key ∧ ev.kind = .noteOn
      · rw [if_pos hk, if_pos hk, hpart (.inl hk.2)]
      · rw [if_neg hk, if_neg hk]
    case damper =>
      rw [hconsider]
      refine (damper_markCaptured _ _ _ _).trans ?_
      by_cases hk : ev.kind = .damper
      · rw [if_pos hk, if_pos hk, hpart (.inr hk)]
      · rw [if_neg hk, if_neg hk]
    case alone =>
      refine hmemory _ (captureRecords_noteOn_alone hk fun q hq => ?_)
      by_contra hne
      exact absurd (hn.symm.trans ((called_noteOn_held hk hq).trans (if_neg hne))) (by decide)
    case other =>
      refine ⟨freeSub s, hmemory _ (captureRecords_noteOn_other hk hq fun heq => ?_)⟩
      exact absurd (hn.symm.trans ((called_noteOn_held hk hq).trans (if_pos heq))) (by decide)

/-! ## The closing sequence (R127 to R129) -/

/-- The first of records of delta 0 takes the gap. -/
theorem firstDelta_getElem {gap : Nat} {l : List TakeRecord} (hzero : ∀ r ∈ l, r.delta = 0) {j : Nat} (h : j < l.length)
    (h' : j < (firstDelta gap l).length) : (firstDelta gap l)[j] = { l[j] with delta := if j = 0 then gap else 0 } := by
  cases l with
  | nil => simp at h
  | cons r l =>
    cases j with
    | zero => rfl
    | succ j =>
      have hj : j < l.length := by simpa using h
      have hdelta : l[j].delta = 0 := hzero _ (List.mem_cons_of_mem _ (List.getElem_mem hj))
      change l[j] = { l[j] with delta := 0 }
      rw [← hdelta]

theorem firstDelta_length (gap : Nat) (l : List TakeRecord) : (firstDelta gap l).length = l.length := by
  cases l <;> rfl

theorem closingRecords_delta (r : Recorder) : ∀ q ∈ closingRecords r, q.delta = 0 := by
  intro q hq
  simp only [closingRecords, List.mem_append, List.mem_map] at hq
  rcases hq with (⟨p, -, rfl⟩ | hq) | hq
  · rfl
  · split at hq
    · rw [List.mem_singleton.1 hq]
    · contradiction
  · rw [List.mem_singleton.1 hq]

/-- A recording that needs no SPACER closes with its closing records at the capture position. -/
theorem closeCapture_eq {s : State} (hcount : captureCount s ≤ openLimit) (hgap : capturePos s - s.recorder.lastPos ≤ 65535) :
    closeCapture s = { s with
      memory := s.memory.setCapture
        (extended (firstDelta (capturePos s - s.recorder.lastPos) (closingRecords s.recorder)) s.memory.capture)
      recorder := { s.recorder with
        state := .idle, base := none, sounding := [], lastPos := capturePos s
        damperValue := if s.recorder.pedals then 0 else s.recorder.damperValue } } := by
  have hspacers := spacersNeeded_eq_zero hgap
  simp only [closeCapture, closingSpacers, closingPos, hspacers, Nat.add_zero, if_pos hcount, appendSpacers, appendAll_eq]

/-- The record count once closed. -/
theorem captureCount_closeCapture {s : State} (hcount : captureCount s ≤ openLimit)
    (hgap : capturePos s - s.recorder.lastPos ≤ 65535) :
    captureCount (closeCapture s) = captureCount s + (closingRecords s.recorder).length := by
  rw [closeCapture_eq hcount hgap]
  simp only [captureCount, capture_setCapture, extended, firstDelta_length]

/-! ## The SPACERs of a frame tick (R126) -/

/-- SPACERs that keep the reserve are all appended. -/
theorem tickSpacers_eq {n : Nat} {s : State} (h : captureCount s + n ≤ openLimit) : tickSpacers n s = appendSpacers n s := by
  induction n generalizing s with
  | zero => rfl
  | succ n ih =>
    have hcount : captureCount (appendSpacer s) = captureCount s + 1 := by
      simp only [captureCount, appendSpacer, appendTake, capture_setCapture]
    rw [tickSpacers, if_pos (by omega), appendSpacers]
    exact ih (by omega)

/-- Settles O42: RECORD_STOP by the recorder's state, the closing in place of a record without room, and the SPACERs of a tick. -/
theorem recordStopClosesTheCapture : Obligations.RecordStopClosesTheCapture := by
  intro tag base s hwf r count pos gap offs damper closing closed spacers
  have hclosed (hbase : r.base = some base) (hcount : count ≤ 16294) (hgap : gap ≤ 65535) :
      closed (closeCapture s) ∧ captureCount (closeCapture s) = count + closing.length := by
    have hpos : capturePos s = pos := capturePos_eq hbase
    have hshort : capturePos s - s.recorder.lastPos ≤ 65535 := by rw [hpos]; exact hgap
    refine ⟨?_, captureCount_closeCapture hcount hshort⟩
    obtain ⟨hheader, hstored, hother, htake, hroles⟩ := appended_setCapture hwf (firstDelta gap closing)
    rw [firstDelta_length] at hheader hother
    have hclose := closeCapture_eq hcount hshort
    rw [hpos] at hclose
    rw [hclose]
    refine ⟨hheader, fun j hj => ?_, hother, htake, hroles, rfl⟩
    exact (hstored j (by rwa [firstDelta_length])).trans (firstDelta_getElem (closingRecords_delta r) hj _)
  refine ⟨fun hw hstate => ?idle, fun hw hstate => ?armed, fun hw hstate hbase hcount hgap => ?recording,
    fun ev hstate hbase hcount hgap hfull hcalled => ?reserve, fun hstate hbase hroom => ?spacers⟩
  case idle =>
    refine completed hw ?_
    rw [recordStopOp, if_neg (by simp), hstate]
  case armed =>
    refine completed hw ?_
    rw [recordStopOp, if_neg (by simp), hstate]
    rfl
  case recording =>
    obtain ⟨hclosed, hlength⟩ := hclosed hbase hcount hgap
    refine ⟨_, hclosed, completed hw ?_⟩
    rw [recordStopOp, if_neg (by simp), hstate, ← hlength]
  case reserve =>
    obtain ⟨hclosed, hlength⟩ := hclosed hbase hcount hgap
    refine ⟨_, hclosed, ?_⟩
    obtain ⟨kind, hkind, hcode⟩ := captureKind_of_called hcalled
    have hobserve : captureObserve ev s = captureConsider ev s := by rw [captureObserve, hstate]
    have hpos : capturePos s = pos := capturePos_eq hbase
    rw [hobserve, captureConsider_called hcalled hkind (by rw [hpos]; exact hgap), if_neg (by exact Nat.not_le.2 hfull),
      closeByReserve, hlength, hcode]
  case spacers =>
    have hpos : capturePos s = pos := capturePos_eq hbase
    have hneeded : spacersNeeded s = spacers := by rw [spacersNeeded, hpos]; rfl
    have hwork : runWork .spacers s = (none, appendSpacers spacers s) := by
      rw [← tickSpacers_eq hroom, ← hneeded]
      exact congrArg _ (if_pos hstate)
    refine ⟨_, hwork, ?_⟩
    rw [appendSpacers_eq]
    refine ⟨appended_setCapture hwf _, rfl, ?_⟩
    change pos - (r.lastPos + 65535 * ((pos - r.lastPos - 1) / 65535)) ≤ 65535
    omega

end Sys2Proof.Proofs.Recording

/-! PROOFS. Chapter 08: the Player's messages (R133, R137 to R139, R143 to R145, R148, R150) and the cue start (R143). One equation
per case of a message's operation, each completed by its reply. -/

namespace Sys2Proof.Proofs.PlayerMessages

open Sys2Proof.Machine
open Sys2Proof.Claims (played sectionData partField startBar locating halted)
open Sys2Proof.Proofs.StrikeVelocity (completed clampNat_ne_iff clampNat_zero u16_of_bytes)
open Sys2Proof.Proofs.Endings (partAt_setPart setPart_frame)
open Sys2Proof.Proofs.Reports (sectionBytes_eq partsReply_eq)

/-- A message that its operation answers with an OK leaves what the operation leaves, and that reply (R131). -/
theorem completed_played {code tag : Byte} {op : MsgOp} {data : List Byte} {s t : State} (hw : windowOpen s = true)
    (hop : op s = playerOk data t) : (.next (completeMessage code tag op s) : Result) = .next (played code tag data t) :=
  completed hw hop

/-! ## SECTION_WRITE (R138) -/

/-- The body of a SECTION_WRITE that writes (R138). -/
abbrev sectionBody (first last repeats : Nat) (action : Byte) : List Byte :=
  leBytes 2 first ++ leBytes 2 last ++ leBytes 2 repeats ++ [action]

section SectionWrite

variable {first last repeats : Nat} {action : Byte}

theorem sectionBody_fields (hf : first < 65536) (hl : last < 65536) (hr : repeats < 65536) :
    u16At (sectionBody first last repeats action) 0 = first ∧ u16At (sectionBody first last repeats action) 2 = last ∧
      u16At (sectionBody first last repeats action) 4 = repeats ∧
      u8At (sectionBody first last repeats action) 6 = action.toNat :=
  ⟨u16_of_bytes hf, u16_of_bytes hl, u16_of_bytes hr, rfl⟩

theorem sectionBodyOk_iff (hf : first < 65536) (hl : last < 65536) (hr : repeats < 65536) :
    sectionBodyOk (sectionBody first last repeats action) = true ↔
      ((first = 65535 ∧ last = 65535) ∨ first < last) ∧ action.toNat ≤ 1 := by
  obtain ⟨hfirst, hlast, -, haction⟩ := sectionBody_fields (action := action) hf hl hr
  rw [sectionBodyOk, hfirst, hlast, haction]
  simp only [Bool.and_eq_true, Bool.or_eq_true, decide_eq_true_eq]

/-- The section that a body carries (R138). -/
theorem sectionOfBody_eq (hf : first < 65536) (hl : last < 65536) (hr : repeats < 65536) :
    sectionOfBody (sectionBody first last repeats action) =
      { range := if first = 65535 ∧ last = 65535 then .whole else .bars first last, repeats := min 255 repeats
        action := if action.toNat = 0 then .stop else .carryOn } := by
  obtain ⟨hfirst, hlast, hrepeats, haction⟩ := sectionBody_fields (action := action) hf hl hr
  rw [sectionOfBody, hfirst, hlast, hrepeats, haction]

theorem sectionReply_eq (p : Player) : sectionReply p = sectionData p := by
  unfold sectionReply sectionData
  rw [sectionBytes_eq, sectionBytes_eq]

theorem sectionWriteOp_stored {b : List Byte} (hlen : b.length = 7) (hok : sectionBodyOk b = true) (s : State) :
    sectionWriteOp b s =
      let q : Player := { s.player with shadow := sectionOfBody b }
      playerOk (sectionData q) { s with player := q } := by
  rw [sectionWriteOp, if_neg (by omega), if_pos hlen, if_neg (by simp [hok])]
  exact congrArg (playerOk · _) (sectionReply_eq _)

theorem sectionWriteOp_badValue {b : List Byte} (hlen : b.length = 7) (hbad : ¬ sectionBodyOk b = true) (s : State) :
    sectionWriteOp b s = (s, .err .badValue) := by
  rw [sectionWriteOp, if_neg (by omega), if_pos hlen, if_pos (Bool.not_eq_true _ ▸ hbad)]

end SectionWrite

/-! ## SECTION_APPLY (R139) -/

theorem applySection_now {p : Player} (h : p.state = .stopped ∨ p.state = .armed) : applySection p = applyStopped p := by
  unfold applySection
  rcases h with h | h <;> rw [h]

theorem applySection_later {p : Player} (hstopped : p.state ≠ .stopped) (harmed : p.state ≠ .armed) :
    applySection p = { p with applyPending := true } := by
  unfold applySection
  split
  case h_1 hstate => exact absurd hstate hstopped
  case h_2 hstate => exact absurd hstate harmed
  all_goals rfl

/-! ## PART_MODE (R137) -/

theorem partPlayOf_code (m : PartPlay) : partPlayOf m.code = m := by cases m <;> rfl

theorem streamOf_code (st : Stream) : streamOf st.code = st := by cases st <;> rfl

/-- A part's pending setting replaced. -/
def pended (part : PartIdx) (mode : PartPlay) (stream : Stream) (p : Player) : Player :=
  setPart part.val (fun q => { q with pending := some (mode, stream) }) p

theorem partAt_pended (part : PartIdx) (mode : PartPlay) (stream : Stream) (p : Player) (n : Nat) :
    partAt (pended part mode stream p) n =
      if n = part.val then { partAt p n with pending := some (mode, stream) } else partAt p n := by
  rw [pended, partAt_setPart]
  simp only [part.isLt, true_and]

theorem partModeOp_stored (part : PartIdx) (mode : PartPlay) (stream : Stream) (s : State) :
    partModeOp (leBytes 1 part.val ++ leBytes 1 mode.code ++ leBytes 1 stream.code) s =
      let q := pended part mode stream s.player
      playerOk ((List.range 4).flatMap (fun n => partField (partAt q n))) { s with player := q } := by
  have hpart : u8At (leBytes 1 part.val ++ leBytes 1 mode.code ++ leBytes 1 stream.code) 0 = part.val :=
    Nat.mod_eq_of_lt (part.isLt.trans (by decide))
  have hmode : u8At (leBytes 1 part.val ++ leBytes 1 mode.code ++ leBytes 1 stream.code) 1 = mode.code := by
    cases mode <;> rfl
  have hstream : u8At (leBytes 1 part.val ++ leBytes 1 mode.code ++ leBytes 1 stream.code) 2 = stream.code := by
    cases stream <;> rfl
  have hok : ¬ (3 < part.val ∨ 2 < mode.code ∨ 1 < stream.code) := by
    have hmode2 : mode.code ≤ 2 := by cases mode <;> decide
    have hstream1 : stream.code ≤ 1 := by cases stream <;> decide
    omega
  rw [partModeOp, if_neg (by simp [leBytes_length]), if_pos (by simp [leBytes_length]), hpart, hmode, hstream, if_neg hok,
    partPlayOf_code, streamOf_code]
  exact congrArg (playerOk · _) (partsReply_eq _)

theorem partModeOp_badValue {a b c : Byte} (h : 3 < a.toNat ∨ 2 < b.toNat ∨ 1 < c.toNat) (s : State) :
    partModeOp [a, b, c] s = (s, .err .badValue) := by
  rw [partModeOp, if_neg (by simp), if_pos (by simp)]
  exact if_pos h

/-- Settles O43: one case of the three messages per clause. -/
theorem sectionsAndPartsAreSet : Obligations.SectionsAndPartsAreSet := by
  intro tag action first last repeats part mode stream a b c s hw hf hl hr p write whole set shadow
  have hbody : (sectionBody first last repeats action).length = 7 := by simp [leBytes_length]
  have hok := sectionBodyOk_iff (action := action) hf hl hr
  refine ⟨fun hrange haction => ?written, fun hbad => ?refused, fun hstate => ?now, fun hstopped harmed => ?later, ?parts,
    fun hbad => completed hw (partModeOp_badValue hbad s)⟩
  case written =>
    have hshadow : sectionOfBody (sectionBody first last repeats action) = shadow := sectionOfBody_eq hf hl hr
    refine completed_played hw ?_
    rw [← hshadow]
    exact sectionWriteOp_stored hbody (hok.2 ⟨hrange, haction⟩) s
  case refused =>
    refine completed hw (sectionWriteOp_badValue hbody (fun hgood => ?_) s)
    obtain ⟨hrange, haction⟩ := hok.1 hgood
    rcases hbad with ⟨hnotWhole, hle⟩ | hlarge
    · exact hrange.elim hnotWhole (Nat.not_lt.2 hle)
    · exact Nat.not_lt.2 haction hlarge
  case now =>
    have hop : sectionApplyOp [] s = playerOk [0] (set (applyStopped p)) := by
      exact congrArg (fun q : Player => playerOk (boolByte q.applyPending) (set q)) (applySection_now hstate)
    exact completed_played hw hop
  case later =>
    have hop : sectionApplyOp [] s = playerOk [1] (set { p with applyPending := true }) :=
      congrArg (fun q : Player => playerOk (boolByte q.applyPending) (set q)) (applySection_later hstopped harmed)
    exact completed_played hw hop
  case parts =>
    refine ⟨_, completed_played hw (partModeOp_stored part mode stream s), ?_, fun n hn => ?_, ?_⟩
    · exact (partAt_pended part mode stream p part.val).trans (if_pos rfl)
    · exact (partAt_pended part mode stream p n).trans (if_neg hn)
    · have hframe : pended part mode stream p = { p with parts := (pended part mode stream p).parts } := setPart_frame ..
      exact congrArg (fun q => played 0x66 tag ((List.range 4).flatMap fun n => partField (partAt (pended part mode stream p) n))
        { s with player := q }) hframe

/-! ## PLAY_RATE, FOLLOW_CONFIG and METRONOME (R133, R148, R150) -/

theorem playRateOp_stored {rate : Nat} (h : rate < 65536) (s : State) : playRateOp (leBytes 2 rate) s =
    playerOk (leBytes 2 (clampNat 32 512 rate) ++ boolByte (decide (rate < 32 ∨ 512 < rate)))
      { s with player := { s.player with rate := clampNat 32 512 rate } } := by
  have hrate : u16At (leBytes 2 rate) 0 = rate := u16_of_bytes h
  rw [playRateOp, if_neg (by simp [leBytes_length]), if_pos (leBytes_length 2 rate)]
  simp only [hrate, clampNat_ne_iff]
  rfl

section Switches

variable {on : Byte} {window level : Nat}

theorem u16At_switchBody (h : window < 65536) : u16At ([on] ++ leBytes 2 window) 1 = window := u16_of_bytes h

/-- The three bytes of a 24-bit number give it back. -/
theorem u24At_switchBody (h : level < 16777216) : u24At ([on] ++ leBytes 3 level) 1 = level := by
  change (BitVec.ofNat 8 level).toNat + 256 * (BitVec.ofNat 8 (level / 256)).toNat +
    65536 * (BitVec.ofNat 8 (level / 256 / 256)).toNat = level
  simp only [BitVec.toNat_ofNat]
  omega

theorem followConfigOp_stored (hon : on.toNat ≤ 1) (hwindow : window < 65536) (s : State) :
    followConfigOp ([on] ++ leBytes 2 window) s =
      let q := setFollow (decide (on.toNat = 1)) (min 800 window) s.player
      playerOk (followReply q (decide (800 < window))) { s with player := q } := by
  have hswitch : u8At ([on] ++ leBytes 2 window) 0 = on.toNat := rfl
  rw [followConfigOp, if_neg (by simp), if_pos (by simp [leBytes_length]), hswitch, if_neg (Nat.not_lt.2 hon),
    u16At_switchBody hwindow, clampNat_zero]
  rfl

theorem followConfigOp_badValue (hon : 1 < on.toNat) (s : State) :
    followConfigOp ([on] ++ leBytes 2 window) s = (s, .err .badValue) := by
  rw [followConfigOp, if_neg (by simp), if_pos (by simp [leBytes_length])]
  exact if_pos hon

theorem metronomeOp_stored (hon : on.toNat ≤ 1) (hlevel : level < 16777216) (s : State) :
    metronomeOp ([on] ++ leBytes 3 level) s =
      playerOk (boolByte (decide (on.toNat = 1)) ++ leBytes 3 (min 1048575 level) ++ boolByte (decide (1048575 < level)))
        (setMetronome (decide (on.toNat = 1)) (min 1048575 level) s) := by
  have hswitch : u8At ([on] ++ leBytes 3 level) 0 = on.toNat := rfl
  rw [metronomeOp, if_neg (by simp), if_pos (by simp [leBytes_length]), hswitch, if_neg (Nat.not_lt.2 hon),
    u24At_switchBody hlevel, clampNat_zero]
  rfl

theorem metronomeOp_badValue (hon : 1 < on.toNat) (s : State) :
    metronomeOp ([on] ++ leBytes 3 level) s = (s, .err .badValue) := by
  rw [metronomeOp, if_neg (by simp), if_pos (by simp [leBytes_length])]
  exact if_pos hon

end Switches

/-- Turning follow off frees a WAITING Player; every other write stores its two settings (R148). -/
theorem setFollow_stored {turnedOn : Bool} {p : Player} (h : ¬ (turnedOn = false ∧ p.state = .waiting)) (window : Nat) :
    setFollow turnedOn window p = { p with follow := turnedOn, window := window } := if_neg h

theorem setFollow_freed {turnedOn : Bool} {p : Player} (h : turnedOn = false ∧ p.state = .waiting) (window : Nat) :
    setFollow turnedOn window p =
      { p with follow := turnedOn, window := window, expected := [], state := .running } := if_pos h

/-- Settles O44: one case of the three messages per clause. -/
theorem rateFollowAndMetronomeAreStored : Obligations.RateFollowAndMetronomeAreStored := by
  intro tag on rate window level s hw hrate hwindow hlevel p switch follow metronome freed q followData
  have hoff : on.toNat ≤ 1 → (switch = false ↔ on.toNat = 0) := fun hon => by
    simp only [switch, decide_eq_false_iff_not]; omega
  have hfollow (hon : on.toNat ≤ 1) := followConfigOp_stored hon hwindow s
  refine ⟨completed_played hw (playRateOp_stored hrate s), fun hon hkept => ?kept, fun hfreed => ?freed,
    fun hon => completed hw (followConfigOp_badValue hon s),
    fun hon => completed_played hw (metronomeOp_stored hon hlevel s),
    fun hon => completed hw (metronomeOp_badValue hon s)⟩
  case kept =>
    have hstored := setFollow_stored (turnedOn := switch) (p := p) (by rwa [hoff hon]) (min 800 window)
    refine completed_played hw ((hfollow hon).trans ?_)
    dsimp only
    rw [hstored]
    rfl
  case freed =>
    have hon : on.toNat ≤ 1 := Nat.le_one_iff_eq_zero_or_eq_one.2 (.inl hfreed.1)
    have hstored := setFollow_freed (turnedOn := switch) (p := p) (by rwa [hoff hon]) (min 800 window)
    refine completed_played hw ((hfollow hon).trans ?_)
    dsimp only
    rw [hstored]
    rfl

/-! ## PLAY_START and PLAY_CUE_START (R143) -/

theorem playStartOp_now {s : State} (h : s.player.state = .stopped) :
    playStartOp [0] s = playerOk [] (startLocate (s.mapPlayer prepareStart)) := by
  rw [playStartOp, if_neg (by simp), if_neg (by decide), if_neg (not_not.2 h)]
  rfl

theorem playStartOp_cue {s : State} (h : s.player.state = .stopped) :
    playStartOp [1] s = playerOk [] { s with player := { prepareStart s.player with state := .armed } } := by
  rw [playStartOp, if_neg (by simp), if_neg (by decide), if_neg (not_not.2 h)]
  rfl

theorem playStartOp_wrongState {v : Byte} {s : State} (hv : v.toNat ≤ 1) (h : s.player.state ≠ .stopped) :
    playStartOp [v] s = (s, .err .wrongState) := by
  have hvalue : ¬ 1 < u8At [v] 0 := Nat.not_lt.2 hv
  rw [playStartOp, if_neg (by simp), if_neg hvalue, if_pos h]

theorem playStartOp_badValue {v : Byte} (hv : 1 < v.toNat) (s : State) : playStartOp [v] s = (s, .err .badValue) := by
  rw [playStartOp, if_neg (by simp)]
  exact if_pos hv

theorem exec_playCueStart {s : State} (h : s.player.state = .armed) : exec .playCueStart s = .next (startLocate s) := by
  have hstep : playerStep (.cue true) s = (.settings true, startLocate s) := if_pos ⟨rfl, h⟩
  exact congrArg (fun r : PlayerWork × State => Host.Outcome.next r.2) hstep

/-! ## PLAY_STOP (R144) -/

theorem playStopOp_now {s : State} (h : s.player.state ≠ .stopped) : playStopOp [0] s = playerOk [] (stopNow s) := by
  rw [playStopOp, if_neg (by simp), if_neg (by decide), if_neg h]
  rfl

theorem playStopOp_atSectionEnd {s : State} (h : s.player.state ≠ .stopped) :
    playStopOp [1] s = playerOk [] { s with player := { s.player with stopAtEnd := true } } := by
  rw [playStopOp, if_neg (by simp), if_neg (by decide), if_neg h]
  rfl

theorem playStopOp_wrongState {v : Byte} {s : State} (hv : v.toNat ≤ 1) (h : s.player.state = .stopped) :
    playStopOp [v] s = (s, .err .wrongState) := by
  have hvalue : ¬ 1 < u8At [v] 0 := Nat.not_lt.2 hv
  rw [playStopOp, if_neg (by simp), if_neg hvalue, if_pos h]

theorem playStopOp_badValue {v : Byte} (hv : 1 < v.toNat) (s : State) : playStopOp [v] s = (s, .err .badValue) := by
  rw [playStopOp, if_neg (by simp)]
  exact if_pos hv

/-- A stop NOW of a Player that plays nothing yet halts it (R144). -/
theorem stopNow_halted {s : State} (h : s.player.state = .armed ∨ s.player.state = .locating) : stopNow s = halted 0 s := by
  unfold stopNow
  rcases h with h | h <;> rw [h] <;> rfl

theorem stopNow_flush {s : State} (h : s.player.state = .running ∨ s.player.state = .waiting) :
    stopNow s = runFlush (beginFlush .stop s) := by
  unfold stopNow
  rcases h with h | h <;> rw [h]

theorem stopNow_flushing {s : State} (h : s.player.state = .flushing) :
    stopNow s = { s with player := { s.player with flushDest := some .stop } } := by
  unfold stopNow
  rw [h]
  rfl

/-! ## PLAY_LOCATE (R145) -/

section Locate

variable {bar : Nat} {s t : State}

theorem playLocateOp_badValue (hbar : bar < 65536) (h : sectionEnd s.memory.take s.player.active ≤ bar) :
    playLocateOp (leBytes 2 bar) s = (s, .err .badValue) := by
  have hfield : u16At (leBytes 2 bar) 0 = bar := u16_of_bytes hbar
  rw [playLocateOp, if_neg (by simp [leBytes_length]), hfield]
  exact if_pos h

theorem playLocateOp_done (hbar : bar < 65536) (h : bar < sectionEnd s.memory.take s.player.active)
    (hlocate : locateNow bar s = some t) : playLocateOp (leBytes 2 bar) s = playerOk [] t := by
  have hfield : u16At (leBytes 2 bar) 0 = bar := u16_of_bytes hbar
  have hinside : ¬ sectionEnd (takeArea s) s.player.active ≤ bar := Nat.not_le.2 h
  rw [playLocateOp, if_neg (by simp [leBytes_length]), hfield, if_neg hinside, hlocate]

theorem playLocateOp_wrongState (hbar : bar < 65536) (h : bar < sectionEnd s.memory.take s.player.active)
    (hlocate : locateNow bar s = none) : playLocateOp (leBytes 2 bar) s = (s, .err .wrongState) := by
  have hfield : u16At (leBytes 2 bar) 0 = bar := u16_of_bytes hbar
  have hinside : ¬ sectionEnd (takeArea s) s.player.active ≤ bar := Nat.not_le.2 h
  rw [playLocateOp, if_neg (by simp [leBytes_length]), hfield, if_neg hinside, hlocate]

theorem locateNow_target (h : s.player.state = .stopped ∨ s.player.state = .armed) :
    locateNow bar s = some { s with player := { s.player with startTarget := some bar } } := by
  unfold locateNow
  rcases h with h | h <;> rw [h] <;> rfl

theorem locateNow_again (h : s.player.state = .locating) :
    locateNow bar s = some { s with player := locating bar s.player } := by
  unfold locateNow
  rw [h]
  rfl

theorem locateNow_flush (h : s.player.state = .running ∨ s.player.state = .waiting) :
    locateNow bar s = some (runFlush (beginFlush (.locate bar) s)) := by
  unfold locateNow
  rcases h with h | h <;> rw [h]

theorem locateNow_redirected (h : s.player.state = .flushing) (hdest : s.player.flushDest ≠ some .stop) :
    locateNow bar s = some { s with player := { s.player with flushDest := some (.locate bar) } } := by
  unfold locateNow
  rw [h]
  exact if_neg hdest

theorem locateNow_refused (h : s.player.state = .flushing) (hdest : s.player.flushDest = some .stop) :
    locateNow bar s = none := by
  unfold locateNow
  rw [h]
  exact if_pos hdest

end Locate

/-- Settles O45: one case of the cue start and of the three messages per clause. -/
theorem startsStopsAndLocatesFollowTheState : Obligations.StartsStopsAndLocatesFollowTheState := by
  intro tag v bar s hbar p set fresh target go flush locate inside
  refine ⟨exec_playCueStart, fun hw => ⟨fun h => completed_played hw (playStartOp_now h),
    fun h => completed_played hw (playStartOp_cue h), fun h hv => completed hw (playStartOp_wrongState hv h),
    fun hv => completed hw (playStartOp_badValue hv s), fun h => ?halt, fun h => ?flush, fun h => ?flushing,
    fun h => completed_played hw (playStopOp_atSectionEnd h), fun h hv => completed hw (playStopOp_wrongState hv h),
    fun hv => completed hw (playStopOp_badValue hv s), fun hout => ?outside, fun hin h => ?target, fun hin h => ?again,
    fun hin h => ?leave, fun hin h hdest => ?redirect, fun hin h hdest => ?refuse⟩⟩
  case halt =>
    have hplays : p.state ≠ .stopped := by rcases h with h | h <;> rw [h] <;> decide
    exact completed_played hw ((playStopOp_now hplays).trans (congrArg _ (stopNow_halted h)))
  case flush =>
    have hplays : p.state ≠ .stopped := by rcases h with h | h <;> rw [h] <;> decide
    exact completed_played hw ((playStopOp_now hplays).trans (congrArg _ (stopNow_flush h)))
  case flushing =>
    have hplays : p.state ≠ .stopped := by rw [h]; decide
    exact completed_played hw ((playStopOp_now hplays).trans (congrArg _ (stopNow_flushing h)))
  case outside => exact completed hw (playLocateOp_badValue hbar (Nat.not_lt.1 hout))
  case target => exact completed_played hw (playLocateOp_done hbar hin (locateNow_target h))
  case again => exact completed_played hw (playLocateOp_done hbar hin (locateNow_again h))
  case leave => exact completed_played hw (playLocateOp_done hbar hin (locateNow_flush h))
  case redirect => exact completed_played hw (playLocateOp_done hbar hin (locateNow_redirected h hdest))
  case refuse => exact completed hw (playLocateOp_wrongState hbar hin (locateNow_refused h hdest))

end Sys2Proof.Proofs.PlayerMessages

/-! PROOFS. Chapter 08: the search of a locate (R142), as LOCATE_END and as the work of a frame tick. First the search itself; then
what the other blocks' work at a tick leaves alone, so that the Player's thread, whichever thread goes on next, finds the Player
and the take as they stood before the tick; then the statement. -/

namespace Sys2Proof.Proofs.Locate

open Sys2Proof.Machine
open Sys2Proof.Claims (announced)
open Sys2Proof.Proofs.Pedals (refuseLive_eq pedalEventOf_eq pedalEvent_kind_ne_noteOn)
open Sys2Proof.Proofs.MixerBounds (advanceThread_perm)
open Sys2Proof.Proofs.EventMemory
open Sys2Proof.Proofs.Release (fuel_ge)

/-! ## The search (R142) -/

/-- The search ends at slot `n`: the record count, an END, or a record at or beyond the target. -/
def Met (a : Area) (target n : Nat) : Prop :=
  a.header.count ≤ n ∨ (slotAt a.slots n).kind = .endMark ∨ target ≤ positionOf a.slots n

section Search

variable {a : Area} {target n i j : Nat}

theorem searchFrom_here (h : Met a target i) : searchFrom a target (n + 1) i = some i := by
  rw [searchFrom]
  by_cases hcount : a.header.count ≤ i
  · exact if_pos hcount
  · rw [if_neg hcount]
    exact if_pos (h.resolve_left hcount)

theorem searchFrom_next (h : ¬ Met a target i) : searchFrom a target (n + 1) i = searchFrom a target n (i + 1) := by
  obtain ⟨hcount, hrecord⟩ := not_or.1 h
  rw [searchFrom, if_neg hcount]
  exact if_neg hrecord

/-- The search stops at the first slot that ends it, which it meets within its records or, at the record count, behind them. -/
theorem searchFrom_first (hij : i ≤ j) (hmet : Met a target j) (hfirst : ∀ k, i ≤ k → k < j → ¬ Met a target k)
    (hwithin : j < i + n ∨ (j = i + n ∧ a.header.count ≤ j)) : searchFrom a target n i = some j := by
  induction n generalizing i with
  | zero =>
    obtain ⟨rfl, hcount⟩ : j = i ∧ a.header.count ≤ j := hwithin.resolve_left (by omega)
    rw [searchFrom, if_pos hcount]
  | succ n ih =>
    rcases hij.eq_or_lt with rfl | hlt
    · exact searchFrom_here hmet
    · rw [searchFrom_next (hfirst i (le_refl i) hlt)]
      exact ih hlt (fun k hk => hfirst k (Nat.le_of_succ_le hk)) (by omega)

/-- A search that meets no end within its records goes on. -/
theorem searchFrom_none (hnone : ∀ k, i ≤ k → k < i + n → ¬ Met a target k) (hcount : i + n < a.header.count) :
    searchFrom a target n i = none := by
  induction n generalizing i with
  | zero =>
    have hbelow : ¬ a.header.count ≤ i := Nat.not_le.2 hcount
    rw [searchFrom, if_neg hbelow]
  | succ n ih =>
    rw [searchFrom_next (hnone i (le_refl i) (by omega))]
    exact ih (fun k hk hlt => hnone k (by omega) (by omega)) (by omega)

end Search

theorem searchStep_ends {s : State} {bar idx i : Nat} (hlocate : s.player.locate = some (bar, idx))
    (hsearch : searchFrom s.memory.take (bar * s.memory.take.header.barLen) 256 idx = some i) :
    searchStep s = endLocate bar i s := by
  have hsearch' : searchFrom (takeArea s) (bar * (takeArea s).header.barLen) 256 idx = some i := hsearch
  simp only [searchStep, hlocate, hsearch']

theorem searchStep_goesOn {s : State} {bar idx : Nat} (hlocate : s.player.locate = some (bar, idx))
    (hsearch : searchFrom s.memory.take (bar * s.memory.take.header.barLen) 256 idx = none) :
    searchStep s = { s with player := { s.player with locate := some (bar, idx + 256) } } := by
  have hsearch' : searchFrom (takeArea s) (bar * (takeArea s).header.barLen) 256 idx = none := hsearch
  simp only [searchStep, hlocate, hsearch']
  rfl

theorem announced_player (s : State) : (announced s).player = s.player := by unfold announced; split <;> rfl

/-- The end of a locate as it is stated (R142). -/
theorem endLocate_eq (bar slot : Nat) (s : State) : endLocate bar slot s = announced { s with player := { s.player with
    state := .running, locate := none, readIdx := slot, pos := bar * s.memory.take.header.barLen * 256 } } := by
  simp only [endLocate, announce, announced, startClick]
  rfl

/-- LOCATE_END is due where this search step ends the locate. -/
theorem exec_locateEnd (s : State) : exec .locateEnd s =
    .next (if s.player.state = .locating ∧ (searchStep s).player.state = .running then searchStep s else s) := rfl

/-! ## Work that leaves the Player and the take alone -/

/-- The Player and the TAKE area are as they were. -/
structure KeepsPlay (s t : State) : Prop where
  player : t.player = s.player
  take : t.memory.take = s.memory.take

theorem KeepsPlay.refl (s : State) : KeepsPlay s s := ⟨rfl, rfl⟩

theorem KeepsPlay.trans {s t u : State} (h : KeepsPlay s t) (h' : KeepsPlay t u) : KeepsPlay s u :=
  ⟨h'.player.trans h.player, h'.take.trans h.take⟩

/-- An operation that leaves event memory alone leaves the take alone. -/
theorem KeepsPlay.of_memory {s t : State} (hplayer : t.player = s.player) (hmemory : t.memory = s.memory) :
    KeepsPlay s t := ⟨hplayer, by rw [hmemory]⟩

theorem raiseNotice_keepsPlay (kind : NoticeKind) (data : List Byte) (s : State) : KeepsPlay s (raiseNotice kind data s) :=
  .of_memory (by simp) (by simp)

/-! ### The Capture Recorder, which writes the CAPTURE area alone -/

theorem appendAll_keepsPlay (rs : List TakeRecord) (s : State) : KeepsPlay s (appendAll rs s) := by
  induction rs generalizing s with
  | nil => exact .refl s
  | cons r rs ih => exact .trans (t := appendTake r s) ⟨rfl, take_setCapture _ _⟩ (ih _)

theorem appendSpacer_keepsPlay (s : State) : KeepsPlay s (appendSpacer s) := ⟨rfl, take_setCapture _ _⟩

theorem appendSpacers_keepsPlay (n : Nat) (s : State) : KeepsPlay s (appendSpacers n s) := by
  induction n generalizing s with
  | zero => exact .refl s
  | succ n ih => exact (appendSpacer_keepsPlay s).trans (ih _)

theorem closingSpacers_keepsPlay (s : State) : KeepsPlay s (closingSpacers s) := by
  unfold closingSpacers
  split
  · exact appendSpacers_keepsPlay _ s
  · exact .refl s

theorem closeByReserve_keepsPlay (kind : TakeKind) (s : State) : KeepsPlay s (closeByReserve kind s) := by
  have hclose : KeepsPlay s (closeCapture s) :=
    ((closingSpacers_keepsPlay s).trans (appendAll_keepsPlay _ _)).trans ⟨rfl, rfl⟩
  exact hclose.trans (raiseNotice_keepsPlay _ _ _)

theorem startCapture_keepsPlay (s : State) : KeepsPlay s (startCapture s) := ⟨rfl, take_setCapture _ _⟩

theorem captureConsider_keepsPlay (ev : EventRecord) (s : State) : KeepsPlay s (captureConsider ev s) := by
  unfold captureConsider
  split
  · exact .refl s
  · exact .refl s
  · split
    · exact ((appendSpacers_keepsPlay _ s).trans (appendAll_keepsPlay _ _)).trans ⟨rfl, rfl⟩
    · exact closeByReserve_keepsPlay _ s

theorem captureObserve_keepsPlay (ev : EventRecord) (s : State) : KeepsPlay s (captureObserve ev s) := by
  unfold captureObserve
  split
  · exact captureConsider_keepsPlay ev s
  · split
    · exact (startCapture_keepsPlay s).trans (captureConsider_keepsPlay ev _)
    · exact .refl s
  · exact .refl s

theorem recorderCue_keepsPlay (cue : Bool) (s : State) : KeepsPlay s (recorderCue cue s) := by
  unfold recorderCue
  split
  · exact startCapture_keepsPlay s
  · exact .refl s

theorem tickSpacers_keepsPlay (n : Nat) (s : State) : KeepsPlay s (tickSpacers n s) := by
  induction n generalizing s with
  | zero => exact .refl s
  | succ n ih =>
    unfold tickSpacers
    split
    · exact (appendSpacer_keepsPlay s).trans (ih _)
    · exact closeByReserve_keepsPlay _ s

theorem recorderSpacers_keepsPlay (s : State) : KeepsPlay s (recorderSpacers s) := by
  unfold recorderSpacers
  split
  · exact tickSpacers_keepsPlay _ s
  · exact .refl s

/-! ### Live records that are no NOTE_ON, which the Player does not compare (R147) -/

theorem presentLive_keepsPlay {ev : EventRecord} (h : ev.kind ≠ .noteOn) (s : State) :
    KeepsPlay s (presentLive ev s).1 := by
  rcases Nat.lt_or_ge s.queue.records.length 96 with hroom | hfull
  · have hobserve : observeLive ev (enqueue ev s) = captureObserve ev (enqueue ev s) := if_neg fun hw => h hw.2
    rw [presentLive_admitted (Nat.le_of_lt_succ hroom), hobserve]
    exact .trans (t := enqueue ev s) ⟨rfl, rfl⟩ (captureObserve_keepsPlay ev _)
  · rw [presentLive_refused hfull, refuseLive_eq h]
    exact ⟨rfl, rfl⟩

theorem retryOwed_keepsPlay (k : KeyIdx) (s : State) : KeepsPlay s (retryOwed k s) := by
  unfold retryOwed
  split
  · exact (presentLive_keepsPlay (ev := noteOffOf s k) (by simp [noteOffOf]) s).trans ⟨rfl, rfl⟩
  · exact .refl s

theorem considerPedal_keepsPlay (p : PedalIdx) (s : State) : KeepsPlay s (considerPedal p s) := by
  have hattempt : KeepsPlay s (attemptPedal p s) := by
    have hkind : (pedalEventOf p (s.pedal p)).kind ≠ .noteOn := by
      rw [pedalEventOf_eq]; exact pedalEvent_kind_ne_noteOn p _
    unfold attemptPedal
    dsimp only
    split
    · exact (presentLive_keepsPlay hkind s).trans ⟨rfl, rfl⟩
    · exact presentLive_keepsPlay hkind s
  unfold considerPedal
  dsimp only
  split_ifs
  · exact hattempt
  · exact .refl s
  · exact ⟨rfl, rfl⟩
  · exact .refl s

/-! ### The other blocks -/

theorem calJobTick_keepsPlay (s : State) : KeepsPlay s (calJobTick s) := by
  refine .of_memory ?_ (calJobTick_memory s)
  unfold calJobTick endJob updateKeys
  dsimp only
  split_ifs <;> simp

theorem storeTick_keepsPlay (done readBackMatches : Bool) (s : State) : KeepsPlay s (storeTick done readBackMatches s) := by
  refine .of_memory ?_ (storeTick_memory done readBackMatches s)
  unfold storeTick completeSave
  dsimp only
  split_ifs <;> simp

theorem scanTick_keepsPlay (s : State) : KeepsPlay s (scanTick s) := by
  refine .of_memory ?_ (scanTick_memory s)
  unfold scanTick
  dsimp only
  split <;> simp

theorem linkTick_keepsPlay (s : State) : KeepsPlay s (linkTick s) := by
  refine .of_memory ?_ (linkTick_memory s)
  unfold linkTick settleLinkBad
  split <;> simp

theorem sendUpstream_keepsPlay (s : State) : KeepsPlay s (sendUpstream s) := by
  refine .of_memory ?_ (sendUpstream_memory s)
  unfold sendUpstream chooseSegment
  split <;> simp

theorem handCause_keepsPlay (cause : BalanceCause) (s : State) : KeepsPlay s (handCause cause s) := by
  unfold handCause
  split <;> exact ⟨rfl, rfl⟩

theorem railApply_player (ev : RailEvent) (s : State) : (railApply ev s).player = s.player := by
  have hfault (reason : RailReason) (t : State) : (enterRailFault reason t).player = t.player := by simp [enterRailFault]
  cases ev with
  | conflict | stall | blocked => exact hfault _ _
  | displaced => simp [railApply, displace, railDone]
  | arrival =>
    simp only [railApply, arrive]
    split <;> simp [enterWaiting, railDone]
  | clearTimeout => simp [railApply, expireWait, railDone]
  | start | waitOn | pause | driveOn | resume | pauseOn | still => rfl

theorem resetDriver_player (s : State) : (resetDriver s).player = s.player := by unfold resetDriver; split <;> rfl

theorem railEarly_keepsPlay (ev : RailEvent) (sw : Switches) (s : State) : KeepsPlay s (railEarly ev sw s) :=
  .of_memory ((resetDriver_player _).trans (railApply_player _ _)) (railEarly_memory ev sw s)

theorem railTick_keepsPlay (sw : Switches) (s : State) : KeepsPlay s (railTick sw s) := by
  have hprepare : (railPrepare sw s).player = s.player := by unfold railPrepare; dsimp only; split <;> rfl
  exact .of_memory (((resetDriver_player _).trans (railApply_player _ _)).trans hprepare) (railTick_memory sw s)

/-- The work of another block leaves the Player and the take alone. -/
theorem runWork_keepsPlay {w : Work} (h : w.isPlayer = false) (s : State) : KeepsPlay s (runWork w s).2 := by
  cases w with
  | player p => simp [Work.isPlayer] at h
  | scan => exact scanTick_keepsPlay s
  | scanLost => exact raiseNotice_keepsPlay _ _ s
  | link => exact linkTick_keepsPlay s
  | owed k => exact retryOwed_keepsPlay k s
  | pedal p => exact considerPedal_keepsPlay p s
  | store done readBackMatches => exact storeTick_keepsPlay done readBackMatches s
  | calJob => exact calJobTick_keepsPlay s
  | railSwitches sw =>
    unfold runWork
    dsimp only
    split
    · exact .refl s
    · exact railEarly_keepsPlay _ sw s
  | rail sw => exact railTick_keepsPlay sw s
  | recorderCue cue => exact recorderCue_keepsPlay cue s
  | spacers => exact recorderSpacers_keepsPlay s
  | mixTrigger => exact handCause_keepsPlay .step3 s
  | upstream => exact sendUpstream_keepsPlay s
  | keyTimers | drain | pedalTimers | railEvaluate | tone | mixMode | fade | gateGain | volume | weights | samples =>
    exact ⟨rfl, rfl⟩

/-! ## The works of a tick and their number -/

/-- How many works a work comes to with those that follow it in its place: those of the Player are counted for a search step. -/
def load : Work → Nat
  | .player (.cue _) => 3
  | .scan | .railSwitches _ | .player (.settings _) => 2
  | _ => 1

theorem load_pos (w : Work) : 0 < load w := by unfold load; split <;> decide

/-- What takes the place of another block's work is no work of the Player and comes to less. -/
theorem runWork_next {w : Work} (h : w.isPlayer = false) (s : State) :
    (∀ v ∈ (runWork w s).1.toList, v.isPlayer = false) ∧ ((runWork w s).1.toList.map load).sum < load w := by
  cases w with
  | player p => simp [Work.isPlayer] at h
  | scan =>
    simp only [runWork]
    split <;> simp [Work.isPlayer, load]
  | railSwitches sw =>
    simp only [runWork]
    split
    · simp [Work.isPlayer, load]
    · split <;> simp [Work.isPlayer, load]
  | _ => exact ⟨nofun, load_pos _⟩

/-- The works of a tick fit its fuel. -/
theorem load_threadsOf (inp : TickInputs) (s : State) : ((threadsOf inp s).flatten.map load).sum ≤ tickFuel inp s := by
  have hfuel := fuel_ge s
  have hload : ((threadsOf inp s).flatten.map load).sum = (threadsOf inp s).flatten.length + 4 := by
    simp [threadsOf, load, Function.comp_def]
    omega
  rw [hload, tickFuel]
  omega

/-! ## The Player's thread -/

/-- The place of the Player's thread among those of a tick. -/
def playerPlace : Nat := 10

/-- The Player's thread while the Player `p` searches on, with what stands of the Player before each of its works and after them
(R132). -/
inductive Searching (p : Player) (bar idx : Nat) : Thread → State → Prop
  | cue {active : Bool} {t : State} : t.player = p → Searching p bar idx [.player (.cue active)] t
  | settings {t : State} : t.player = p → Searching p bar idx [.player (.settings false)] t
  | body {t : State} : t.player = { p with parts := t.player.parts } → Searching p bar idx [.player (.body false)] t
  | searched {t : State} : t.player = { p with locate := some (bar, idx + 256), parts := t.player.parts } →
      Searching p bar idx [] t

section PlayerThread

variable {p : Player} {a : Area} {bar idx : Nat}

/-- Work that leaves the Player alone leaves its thread where it stands. -/
theorem Searching.keeps {own : Thread} {s t : State} (h : Searching p bar idx own s) (hkeeps : KeepsPlay s t) :
    Searching p bar idx own t := by
  have hplayer := hkeeps.player
  cases h with
  | cue hs => exact .cue (hplayer.trans hs)
  | settings hs => exact .settings (hplayer.trans hs)
  | body hs => exact .body (by rw [hplayer]; exact hs)
  | searched hs => exact .searched (by rw [hplayer]; exact hs)

/-- Each work of the Player leads to the next, the search step to none. -/
theorem Searching.step (hstate : p.state = .locating) (hlocate : p.locate = some (bar, idx))
    (hsearch : searchFrom a (bar * a.header.barLen) 256 idx = none) {w : Work} {rest : Thread} {s : State}
    (htake : s.memory.take = a) (h : Searching p bar idx (w :: rest) s) :
    Searching p bar idx (advanceThread (runWork w s).1 (w :: rest)) (runWork w s).2 ∧
      (runWork w s).2.memory.take = a ∧ ((runWork w s).1.toList.map load).sum < load w := by
  cases h with
  | cue hs =>
    rename_i active
    have hplaying : ¬ (active = true ∧ s.player.state = .armed) := fun ⟨_, harmed⟩ => by
      rw [hs, hstate] at harmed; contradiction
    have hwork : runWork (.player (.cue active)) s = (some (.player (.settings false)), s) := by
      simp only [runWork, playerStep, if_neg hplaying]
      rfl
    rw [hwork]
    exact ⟨.settings hs, htake, by simp [load]⟩
  | settings hs =>
    have hwork : runWork (.player (.settings false)) s = (some (.player (.body false)), applySettings s) := rfl
    rw [hwork]
    exact ⟨.body (by rw [← hs]; rfl), htake, by simp [load]⟩
  | body hs =>
    have hlocating : s.player.state = .locating := by rw [hs]; exact hstate
    have hbar : s.player.locate = some (bar, idx) := by rw [hs]; exact hlocate
    rw [← htake] at hsearch
    have hwork : runWork (.player (.body false)) s = (none, searchStep s) := by
      simp only [runWork, playerStep, bodyStep, hlocating]
      rfl
    rw [hwork, searchStep_goesOn hbar hsearch]
    refine ⟨.searched ?_, htake, load_pos _⟩
    rw [hs]

/-! ## The threads of a tick (R166) -/

/-- The threads of a tick while the Player `p` searches on through the take `a`: its own thread, and no work of it elsewhere. -/
structure SearchTick (p : Player) (a : Area) (bar idx : Nat) (ts : List Thread) (t : State) : Prop where
  others : ∀ w ∈ (ts.set playerPlace []).flatten, w.isPlayer = false
  own : Searching p bar idx (ts.getD playerPlace []) t
  take : t.memory.take = a

theorem threadsOf_searchTick (inp : TickInputs) {s : State} (hplayer : s.player = p) (htake : s.memory.take = a) :
    SearchTick p a bar idx (threadsOf inp s) s := by
  refine ⟨?_, .cue hplayer, htake⟩
  simp only [threadsOf, playerPlace, List.set_cons_succ, List.set_cons_zero, List.flatten_cons, List.forall_mem_append,
    List.forall_mem_map]
  simp [Work.isPlayer]

/-- A work done at the head of a thread: the invariant stands, and less is left to do. -/
theorem SearchTick.step (hstate : p.state = .locating) (hlocate : p.locate = some (bar, idx))
    (hsearch : searchFrom a (bar * a.header.barLen) 256 idx = none) {ts : List Thread} {i : Nat} {w : Work} {rest : Thread}
    {s : State} (hthread : ts.getD i [] = w :: rest) (h : SearchTick p a bar idx ts s) :
    SearchTick p a bar idx (ts.set i (advanceThread (runWork w s).1 (w :: rest))) (runWork w s).2 ∧
      ((ts.set i (advanceThread (runWork w s).1 (w :: rest))).flatten.map load).sum < (ts.flatten.map load).sum := by
  obtain ⟨hothers, hown, htake⟩ := h
  have hi : i < ts.length := by
    by_contra hout
    rw [List.getD_eq_default _ _ (Nat.le_of_not_lt hout)] at hthread
    contradiction
  have hless (hload : ((runWork w s).1.toList.map load).sum < load w) :
      ((ts.set i (advanceThread (runWork w s).1 (w :: rest))).flatten.map load).sum < (ts.flatten.map load).sum := by
    obtain ⟨left, hbefore, hafter⟩ := advanceThread_perm hthread
    rw [(hbefore.map load).sum_eq, ((hafter _).map load).sum_eq, List.map_append, List.sum_append, List.map_cons, List.sum_cons]
    omega
  by_cases hplace : i = playerPlace
  · subst hplace
    rw [hthread] at hown
    obtain ⟨hown', htake', hload⟩ := hown.step hstate hlocate hsearch htake
    refine ⟨⟨by rwa [List.set_set], ?_, htake'⟩, hless hload⟩
    rwa [List.getD_eq_getElem _ _ (by simpa using hi), List.getElem_set_self]
  · have hthread' : (ts.set playerPlace []).getD i [] = w :: rest := by
      simpa [List.getD_eq_getElem?_getD, Ne.symm hplace] using hthread
    obtain ⟨left, hbefore, hafter⟩ := advanceThread_perm hthread'
    have hw : w.isPlayer = false := hothers w (hbefore.mem_iff.2 List.mem_cons_self)
    obtain ⟨hnext, hload⟩ := runWork_next hw s
    have hkeeps := runWork_keepsPlay hw s
    refine ⟨⟨fun v hv => ?_, ?_, hkeeps.take.trans htake⟩, hless hload⟩
    · rw [List.set_comm _ _ hplace] at hv
      rcases List.mem_append.1 ((hafter _).mem_iff.1 hv) with hv | hv
      · exact hnext v hv
      · exact hothers v (hbefore.mem_iff.2 (List.mem_cons_of_mem w hv))
    · have hsame : (ts.set i (advanceThread (runWork w s).1 (w :: rest))).getD playerPlace [] = ts.getD playerPlace [] := by
        simp [List.getD_eq_getElem?_getD, hplace]
      rw [hsame]
      exact hown.keeps hkeeps

/-- Where some thread is ready, the one picked is. -/
theorem pick_mem {ready : List Nat} (h : ready ≠ []) (choice : Nat) : pick ready choice ∈ ready := by
  have hlt : choice % ready.length < ready.length := Nat.mod_lt _ (List.length_pos_iff.2 h)
  rw [pick, List.getD_eq_getElem _ _ hlt]
  exact List.getElem_mem hlt

theorem thread_of_mem_readyThreads {ts : List Thread} {i : Nat} (h : i ∈ readyThreads ts) : ts.getD i [] ≠ [] := by
  intro hnil
  have hready := (List.mem_filter.1 h).2
  rw [hnil] at hready
  contradiction

/-- The Player's next work is ready whatever remains, so no tick comes to a stand before it. -/
theorem SearchTick.goesOn {ts : List Thread} {s : State} (h : SearchTick p a bar idx ts s)
    (hleft : ts.getD playerPlace [] ≠ []) (choice : Nat) : ts.getD (pick (readyThreads ts) choice) [] ≠ [] := by
  have hlt : playerPlace < ts.length := by
    by_contra hout
    exact hleft (List.getD_eq_default _ _ (Nat.le_of_not_lt hout))
  have hready : playerPlace ∈ readyThreads ts := by
    have hown := h.own
    rw [readyThreads, List.mem_filter]
    refine ⟨List.mem_range.2 hlt, ?_⟩
    cases hthread : ts.getD playerPlace [] with
    | nil => exact absurd hthread hleft
    | cons w rest =>
      rw [hthread] at hown
      cases hown <;> rfl
  exact thread_of_mem_readyThreads (pick_mem (List.ne_nil_of_mem hready) choice)

/-- Once nothing is left of its thread, the Player has searched on. -/
theorem SearchTick.searched {ts : List Thread} {s : State} (h : SearchTick p a bar idx ts s)
    (hdone : ts.getD playerPlace [] = []) :
    s.player = { p with locate := some (bar, idx + 256), parts := s.player.parts } := by
  have hown := h.own
  rw [hdone] at hown
  cases hown with
  | searched hs => exact hs

/-- With fuel for the works that remain, the Player has searched on when the threads have run. -/
theorem runThreads_searched (hstate : p.state = .locating) (hlocate : p.locate = some (bar, idx))
    (hsearch : searchFrom a (bar * a.header.barLen) 256 idx = none) {n : Nat} {choices : List Nat} {ts : List Thread}
    {s : State} (h : SearchTick p a bar idx ts s) (hfuel : (ts.flatten.map load).sum ≤ n) :
    (runThreads n choices ts s).player =
      { p with locate := some (bar, idx + 256), parts := (runThreads n choices ts s).player.parts } := by
  induction n generalizing choices ts s with
  | zero =>
    refine h.searched ?_
    cases hthread : ts.getD playerPlace [] with
    | nil => rfl
    | cons w rest =>
      obtain ⟨-, hless⟩ := h.step hstate hlocate hsearch hthread
      omega
  | succ n ih =>
    unfold runThreads
    dsimp only
    split
    next hstand =>
      exact h.searched (by_contra fun hleft => h.goesOn hleft _ hstand)
    next w rest hthread =>
      obtain ⟨hstep, hless⟩ := h.step hstate hlocate hsearch hthread
      rw [hthread]
      exact ih hstep (by omega)

end PlayerThread

/-- A frame tick that is not the reset tick takes the search of a LOCATING Player on. -/
theorem runTick_searched (inp : TickInputs) {s : State} {bar idx : Nat} (hstate : s.player.state = .locating)
    (hlocate : s.player.locate = some (bar, idx))
    (hsearch : searchFrom s.memory.take (bar * s.memory.take.header.barLen) 256 idx = none) :
    (runTick inp s).player =
      { s.player with locate := some (bar, idx + 256), parts := (runTick inp s).player.parts } :=
  runThreads_searched hstate hlocate hsearch (threadsOf_searchTick inp rfl rfl) (load_threadsOf inp s.ticked)

/-! ## The statement -/

/-- Settles O46: the search step that meets its end ends the locate, and one that does not leaves it to the next tick. -/
theorem locateEndsAtTheFirstRecordAtOrBeyondTheBar : Obligations.LocateEndsAtTheFirstRecordAtOrBeyondTheBar := by
  intro bar idx i inp s hstate hlocate a met
  refine ⟨fun hle hmet hfirst hwithin => ?ends, fun hnone hcount => ?goesOn⟩
  case ends =>
    have hsearch : searchFrom a (bar * a.header.barLen) 256 idx = some i := searchFrom_first hle hmet hfirst hwithin
    have hstep := (searchStep_ends hlocate hsearch).trans (endLocate_eq bar i s)
    have hrunning : (searchStep s).player.state = .running := by rw [hstep, announced_player]
    rw [exec_locateEnd, if_pos ⟨hstate, hrunning⟩, hstep]
  case goesOn =>
    have hsearch : searchFrom a (bar * a.header.barLen) 256 idx = none := searchFrom_none hnone hcount
    have hlocating : ¬ (searchStep s).player.state = .running := by
      rw [searchStep_goesOn hlocate hsearch]
      simp [hstate]
    refine ⟨?_, fun hreset => ⟨runTick inp s, ?_, runTick_searched inp hstate hlocate hsearch⟩⟩
    · rw [exec_locateEnd, if_neg fun hdue => hlocating hdue.2]
    · change Host.Outcome.next (if s.msg.resetDue = true then softReset inp.sw s else runTick inp s) = _
      rw [if_neg (by simp [hreset])]

end Sys2Proof.Proofs.Locate

/-! PROOFS. Chapter 08: the end of a pass and the end of the take (R140) of a Player with nothing to flush. First what an advance
to the end point and the end of a pass leave, then the flush that ends at once, then the statement. -/

namespace Sys2Proof.Proofs.PassEnd

open Sys2Proof.Machine
open Sys2Proof.Claims (quiet decided)
open Sys2Proof.Proofs.Endings (SetsAscending flushItems runFlush_eq flushDecision_eq presentThen)
open Sys2Proof.Proofs.Release (movedTo barMixer beatMixer crossBeat_eq)

/-! ## The advance to an end point (R133, R149, R157) -/

/-- `m` has the balance, the fade and the pending balance change of `m'`. -/
structure SameBalance (m m' : Mixer) : Prop where
  bal : m.bal = m'.bal
  fade : m.fade = m'.fade
  pending : m.pendingBal = m'.pendingBal

/-- A bar crossing triggers no AT_SECTION change (R157). -/
theorem barMixer_atSection {m : Mixer} {b : PendingBalance} (h : m.pendingBal = some b) (hsection : b.trigger = .atSection) :
    barMixer m = m := by
  obtain ⟨target, frames, trigger⟩ := b
  cases hsection
  simp only [barMixer, h]

/-- A beat leaves the balance and its changes. -/
theorem beatMixer_sameBalance (first : Bool) (p : Player) (m : Mixer) : SameBalance (beatMixer first p m) m := by
  unfold beatMixer
  dsimp only
  split <;> exact ⟨rfl, rfl, rfl⟩

/-- An advance moves the position; besides it, only the base of a recording and the Mixer may change, and while an AT_SECTION change
is pending, neither the balance nor its changes. -/
theorem advanceTo_frame (q : Nat) (s : State) : ∃ base mixer, advanceTo q s = { s with
    player := { s.player with pos := q }, recorder := { s.recorder with base := base }, mixer := mixer } ∧
    ∀ b, s.mixer.pendingBal = some b → b.trigger = .atSection → SameBalance mixer s.mixer := by
  obtain ⟨base, hmoved⟩ : ∃ base, movedTo q s = { s with
      player := { s.player with pos := q }, recorder := { s.recorder with base := base } } := by
    unfold movedTo recorderAdvance
    split <;> exact ⟨_, rfl⟩
  by_cases hbeat : s.player.pos < beatReached s q ∧ belowLimit s (beatReached s q) = true
  · have hcross : advanceTo q s = crossBeat (beatReached s q) (movedTo q s) := if_pos hbeat
    rw [hcross, hmoved, crossBeat_eq]
    refine ⟨base, _, rfl, fun b hb hsection => ?_⟩
    dsimp only
    have hsame := beatMixer_sameBalance
    split
    · rw [barMixer_atSection ((hsame _ _ _).pending.trans hb) hsection]
      exact hsame _ _ _
    · exact hsame _ _ _
  · have hstay : advanceTo q s = movedTo q s := if_neg hbeat
    rw [hstay, hmoved]
    exact ⟨base, s.mixer, rfl, fun _ _ _ => ⟨rfl, rfl, rfl⟩⟩

/-! ## The end of a pass as the Mixer is handed it (R157) -/

/-- The Mixer after an end of pass, with an AT_SECTION balance change triggered. -/
theorem handCause_endOfPass (s : State) : ∃ mixer, handCause .endOfPass s = { s with mixer := mixer } ∧
    ∀ b, s.mixer.pendingBal = some b → b.trigger = .atSection → mixer = triggerBalance s.mixer := by
  by_cases hdue : balanceDue .endOfPass s = true
  · exact ⟨_, if_pos hdue, fun _ _ _ => rfl⟩
  · refine ⟨s.mixer, if_neg hdue, fun b hb hsection => absurd ?_ hdue⟩
    simp only [balanceDue, hb, hsection, balanceTriggered]

/-- A triggered change stands at its target at once for 0 fade frames, or begins its fade (R157). -/
theorem triggerBalance_pending {m : Mixer} {b : PendingBalance} (h : m.pendingBal = some b) :
    (triggerBalance m).pendingBal = none ∧
      (b.frames = 0 → (triggerBalance m).bal = b.target ∧ (triggerBalance m).fade = none) ∧
      (0 < b.frames → (triggerBalance m).bal = m.bal ∧
        (triggerBalance m).fade = some { target := b.target, remaining := b.frames }) := by
  simp only [triggerBalance, h]
  split
  · exact ⟨rfl, fun _ => ⟨rfl, rfl⟩, fun hfade => by omega⟩
  · exact ⟨rfl, fun hnow => by omega, fun _ => ⟨rfl, rfl⟩⟩

/-! ## A flush with nothing to present (R140, R141) -/

theorem flushItems_quiet {p : Player} (h : quiet p) : flushItems p = [] := by
  obtain ⟨hsounding, hlit, hdamped⟩ := h
  rw [flushItems, hsounding, hlit, hdamped]
  rfl

/-- The flush of a quiet Player ends at once. -/
theorem runFlush_decided {dest : FlushDest} {s : State} (hquiet : quiet s.player) (hdest : s.player.flushDest = some dest) :
    runFlush s = decided dest s := by
  have hs : SetsAscending s.player := by
    obtain ⟨hsounding, hlit, -⟩ := hquiet
    rw [SetsAscending, hsounding, hlit]
    exact ⟨.nil, .nil⟩
  rw [runFlush_eq hs, flushItems_quiet hquiet, presentThen, flushDecision_eq hdest]

/-! ## The statement -/

/-- The Player at an end point `q`, its hold counter 0, as the flush of destination `dest` begins (R140). -/
def endedAt (dest : FlushDest) (q : Nat) (p : Player) : Player :=
  { p with state := .flushing, flushDest := some dest, expected := [], hold := 0, pos := q }

/-- END_OF_PASS is due where the release has ended and the new position reaches the limit. -/
theorem exec_endOfPass {s : State} (hstate : s.player.state = .running) (hfree : s.player.freePlay = false)
    (hnone : releasable (s.player.pos + s.player.rate) s = false) (hlimit : passLimit s ≤ s.player.pos + s.player.rate) :
    exec .endOfPass s = .next (runFlush (endPass (advanceTo (passLimit s)
      { s with player := { s.player with hold := 0 } }))) := by
  have hdue : passEnds (s.player.pos + s.player.rate) s = true := by simp [passEnds, hstate, hfree, hnone, hlimit]
  have hfinish : finishRelease (s.player.pos + s.player.rate) s =
      (.flush, endPass (advanceTo (passLimit s) { s with player := { s.player with hold := 0 } })) := by
    unfold finishRelease
    dsimp only
    rw [if_neg (by simp [hfree]), if_pos hlimit]
    rfl
  change Host.Outcome.next (if passEnds _ s = true then runFlush (finishRelease _ s).2 else s) = _
  rw [if_pos hdue, hfinish]

/-- END_OF_TAKE is due where free play has come to the first END or the record count, and the new position to the take's end. -/
theorem exec_endOfTake {s : State} (hstate : s.player.state = .running) (hfree : s.player.freePlay = true)
    (hread : firstEnd s.memory.take ≤ s.player.readIdx) (hend : takeEndUnits s ≤ s.player.pos + s.player.rate) :
    exec .endOfTake s = .next (runFlush (beginFlush .endOfTake (advanceTo (takeEndUnits s)
      { s with player := { s.player with hold := 0 } }))) := by
  have hread' : firstEnd (takeArea s) ≤ s.player.readIdx := hread
  have hnone : releasable (s.player.pos + s.player.rate) s = false := by simp [releasable, Nat.not_lt.2 hread']
  have hdue : takeEnds (s.player.pos + s.player.rate) s = true := by simp [takeEnds, hstate, hfree, hnone, hread', hend]
  have hfinish : finishRelease (s.player.pos + s.player.rate) s =
      (.flush, beginFlush .endOfTake (advanceTo (takeEndUnits s) { s with player := { s.player with hold := 0 } })) := by
    unfold finishRelease
    dsimp only
    rw [if_pos hfree, if_pos ⟨hread', hend⟩]
    rfl
  change Host.Outcome.next (if takeEnds _ s = true then runFlush (finishRelease _ s).2 else s) = _
  rw [if_pos hdue, hfinish]

/-- Settles O48: the advance reaches the end point, the flush that begins there has nothing to present, and the decision follows. -/
theorem passAndTakeEndAtTheirPoints : Obligations.PassAndTakeEndAtTheirPoints := by
  intro s hstate hquiet p newPos limit finish ended
  refine ⟨fun hfree hnone hlimit => ?pass, fun hfree hread hend => ?take⟩
  case pass =>
    obtain ⟨base, m, hadvance, hbalance⟩ := advanceTo_frame limit { s with player := { p with hold := 0 } }
    let t : State := { s with
      player := { p with hold := 0, pos := limit }, recorder := { s.recorder with base := base }, mixer := m }
    obtain ⟨m', hcause, htrigger⟩ := handCause_endOfPass t
    let u : State := { t with player := endedAt .endOfPass limit p, mixer := m' }
    have hu : endPass (advanceTo limit { s with player := { p with hold := 0 } }) = u := by
      rw [hadvance, endPass, show handCause .endOfPass _ = _ from hcause]
      rfl
    have hrun : runFlush u = decided .endOfPass u := runFlush_decided hquiet rfl
    refine ⟨u, ⟨rfl, rfl, rfl, rfl, rfl, rfl, rfl⟩, ?_, fun b hb hsection => ?_⟩
    · rw [← hrun, ← hu]
      exact exec_endOfPass hstate hfree hnone hlimit
    · have hsame : SameBalance m s.mixer := hbalance b hb hsection
      have hpending : m.pendingBal = some b := hsame.pending.trans hb
      have hmixer : u.mixer = triggerBalance m := htrigger b hpending hsection
      obtain ⟨habsent, hnow, hfade⟩ := triggerBalance_pending hpending
      rw [hmixer, ← hsame.bal]
      exact ⟨habsent, hnow, hfade⟩
  case take =>
    obtain ⟨base, m, hadvance, -⟩ := advanceTo_frame finish { s with player := { p with hold := 0 } }
    let u : State := { s with
      player := endedAt .endOfTake finish p, recorder := { s.recorder with base := base }, mixer := m }
    have hu : beginFlush .endOfTake (advanceTo finish { s with player := { p with hold := 0 } }) = u := by
      rw [hadvance]
      rfl
    have hrun : runFlush u = decided .endOfTake u := runFlush_decided hquiet rfl
    refine ⟨u, ⟨rfl, rfl, rfl, rfl, rfl, rfl, rfl⟩, ?_⟩
    rw [← hrun, ← hu]
    exact exec_endOfTake hstate hfree hread hend

end Sys2Proof.Proofs.PassEnd
